-- ==== Sys2Proof/Word.lean ====
section
/-! DEFINITION. The word types of the KR1520 and their plainest arithmetic (data book 1.5, R2). -/

namespace Sys2Proof

/-- A byte of a frame, of a trace item, or of a register number. -/
abbrev Byte := BitVec 8

/-- A register word (data book 11.1: registers are 16 bits wide). -/
abbrev Word := BitVec 16

/-- A tick number: a 24-bit count of ticks that wraps (R2). -/
abbrev Tick := BitVec 24

/-- A beat address: a 32-bit count of beats of 8 bytes (data book 1.5). -/
abbrev Addr := BitVec 32

/-- The 64 data bits of one beat. -/
abbrev Beat := BitVec 64

/-- A tag, 0 to 255 (data book 1.3). -/
abbrev Tag := BitVec 8

/-- A transaction ID on the memory path, 0 to 15. -/
abbrev TxId := BitVec 4

/-- A trigger slot number, 0 to 15 (R25). -/
abbrev Slot := Fin 16

end Sys2Proof
end

