-- ==== Sys2Proof/Config.lean ====
section
/-! DEFINITION. What the part fixes once and for all: capacities, the part code, the device tag base, the numbers of the
registers that have a row of their own in the command table. The data book leaves no result value undefined, so there is
no free value here (INVENTORY.md, "What the manual leaves open"). -/

namespace Sys2Proof.Config

/-- Entry places of the observation window (R4). -/
abbrev windowPlaces : Nat := 512
/-- Record slots of the Event Store (R67). -/
abbrev recordSlots : Nat := 1024
/-- Places of the Event Queue (R77). -/
abbrev queuePlaces : Nat := 32
/-- Places of the Notice Queue (R144). -/
abbrev noticePlaces : Nat := 8
/-- Items of the Open Transaction Table (R111). -/
abbrev ottItems : Nat := 32
/-- Places of each forward queue (R109, R110). -/
abbrev forwardPlaces : Nat := 4
/-- The most transfers a response has (R107). -/
abbrev responseTransfers : Nat := 16
/-- PART_CODE (R186). -/
abbrev partCode : Word := 0x1520
/-- The first device tag; tags 192 to 255 are device tags (R31). -/
abbrev firstDeviceTag : Tag := 192
/-- The tag of a SKIP notice that names none (R35). -/
abbrev noTag : Tag := 255

/-- Numbers of the registers whose writes or reads are rows of their own (11.1). -/
abbrev latencyNum : Byte := 2
abbrev maxRecordsNum : Byte := 5
abbrev burstSizeNum : Byte := 36
abbrev throttleMarkNum : Byte := 37
abbrev statusPeriodNum : Byte := 40
abbrev flagMaskNum : Byte := 42
abbrev curTickHiNum : Byte := 43
abbrev curTickLoNum : Byte := 44

/-- The registers whose writes are rows of their own. -/
def ownWriteRows : List Byte :=
  [latencyNum, maxRecordsNum, burstSizeNum, throttleMarkNum, statusPeriodNum, flagMaskNum]

/-- The registers whose reads are rows of their own. -/
def ownReadRows : List Byte := [curTickHiNum, curTickLoNum]

/-- The command codes of 11.3. -/
def commandCodes : List Byte :=
  [0x00, 0x01, 0x02, 0x10, 0x11, 0x12, 0x13, 0x20, 0x21, 0x22, 0x30]

end Sys2Proof.Config
end

