-- ==== Sys2Proof/Syntax.lean ====
section
/-! DEFINITION. The commands the block takes: one constructor of Instr per row of spec/opcode_table.json, with the
operands the row's rules name (log 26), and the types of those operands. -/

namespace Sys2Proof

/-- The kind of a request (R105). -/
inductive Kind where
  | read
  | write
  deriving DecidableEq, Repr

/-- The status a memory returns (R105). -/
inductive RespStatus where
  | okay
  | error
  deriving DecidableEq, Repr

/-- The two trigger lines (R45). -/
inductive TrigLine where
  | trgA
  | trgB
  deriving DecidableEq, Repr

/-- The header transfer of a request (R105): kind, ID, beat address, length in beats. -/
structure ReqHeader where
  kind : Kind
  id : TxId
  addr : Addr
  len : Nat
  deriving DecidableEq, Repr

/-- A write beat transfer (R105): 64 data bits, byte enable k governing byte k. -/
structure WriteBeat where
  data : Beat
  enables : BitVec 8
  deriving DecidableEq, Repr

/-- One transfer on UQ (R105). -/
inductive ReqTransfer where
  | header (h : ReqHeader)
  | beat (b : WriteBeat)
  deriving DecidableEq, Repr

/-- One transfer on MP (R105): ID, status, beat indication, data, last indication. -/
structure RespTransfer where
  id : TxId
  status : RespStatus
  beat : Bool
  data : Beat
  last : Bool
  deriving DecidableEq, Repr

/-- When the Path Unit takes its throttle count of a tick: with the tick, or left to come, by THROTTLE_TIMEOUT where the
count reaches the limit, and at the latest after the window's expiry of that tick, or after the deadlines of that tick
(R119; the data book allows the orders and the sender says which, log 3). -/
inductive CountOrder where
  | atOnce
  | afterExpiry
  | afterDeadlines
  deriving DecidableEq, Repr

/-- The commands: one constructor per row of spec/opcode_table.json. -/
inductive Instr where
  /-- TICK (R1). -/
  | tick (order : CountOrder)
  /-- HORIZON_ADVANCE (R16). -/
  | horizonAdvance
  /-- DECISION_DEADLINE (R53). -/
  | decisionDeadline
  /-- THROTTLE_TIMEOUT (R119). -/
  | throttleTimeout
  /-- STATUS_FRAME_DUE (R141). -/
  | statusFrameDue
  /-- REQUEST_TAKEN (R112): the UQ transfers that arrive, the last of which makes the request taken (log 8). -/
  | requestTaken (transfers : List ReqTransfer)
  /-- REQUEST_PASSED (R109). -/
  | requestPassed
  /-- RESPONSE_TAKEN (R113): the MP transfers that arrive, the last of which makes the response taken (log 8). -/
  | responseTaken (transfers : List RespTransfer)
  /-- RESPONSE_PASSED (R110). -/
  | responsePassed
  /-- MRST_ASSERT (R121). -/
  | mrstAssert
  /-- MRST_RELEASE (R122). -/
  | mrstRelease
  /-- RST_N_ASSERT (R184). -/
  | rstNAssert
  /-- RST_N_RELEASE (R46): the pins sampled at release: DEVID, TRGA, TRGB, and whether CS_N is low (R158). -/
  | rstNRelease (devid : BitVec 2) (levelA levelB csLow : Bool)
  /-- LINE_EDGE (R45): the line and the level of its next sample; a high sample after a low one is the rising edge. -/
  | lineEdge (line : TrigLine) (sample : Bool)
  /-- NOP (R159). -/
  | nop
  /-- READ_REG (R159): the register number. -/
  | readReg (reg : Byte)
  /-- CUR_TICK_HI_READ (R161). -/
  | curTickHiRead
  /-- CUR_TICK_LO_READ (R161). -/
  | curTickLoRead
  /-- WRITE_REG (R160): the register number and the value. -/
  | writeReg (reg : Byte) (value : Word)
  /-- LATENCY_WRITE (R3). -/
  | latencyWrite (value : Word)
  /-- MAX_RECORDS_WRITE (R76). -/
  | maxRecordsWrite (value : Word)
  /-- THROTTLE_MARK_WRITE (R118). -/
  | throttleMarkWrite (value : Word)
  /-- BURST_SIZE_WRITE (R140). -/
  | burstSizeWrite (value : Word)
  /-- STATUS_PERIOD_WRITE (R143). -/
  | statusPeriodWrite (value : Word)
  /-- FLAG_MASK_WRITE (R170). -/
  | flagMaskWrite (value : Word)
  /-- TRIGGER (R162): the tag and the control byte. -/
  | trigger (tag : Tag) (control : Byte)
  /-- CONFIRM (R55). -/
  | confirm (tag : Tag)
  /-- CANCEL (R59). -/
  | cancel (tag : Tag)
  /-- QUERY_TAG (R47). -/
  | queryTag (tag : Tag)
  /-- START (R173). -/
  | start
  /-- STOP (R174). -/
  | stop
  /-- FLUSH_WINDOW (R22). -/
  | flushWindow
  /-- FLUSH_TRIGGERS (R48). -/
  | flushTriggers
  /-- FLUSH_EVENTS (R85). -/
  | flushEvents
  /-- FLUSH_NOTICES (R148). -/
  | flushNotices
  /-- FLUSH_COUNTERS (R166). -/
  | flushCounters
  /-- TAKE_FLAGS (R168). -/
  | takeFlags
  /-- UNKNOWN_COMMAND (R154): the command byte; the check byte completes a zero sum. -/
  | unknownCommand (command : Byte)
  /-- FRAME_ABORT (R155): the bits sampled on MOSI before CS_N rose. -/
  | frameAbort (received : List Bool)
  /-- ITEM_BEGIN (R128). -/
  | itemBegin
  /-- ITEM_END (R128). -/
  | itemEnd
  /-- BAD_CHECK_BYTE (R153): the command byte, the argument bytes and the check byte. -/
  | badCheckByte (frame : List Byte)
  /-- FLUSH (R180): the selection byte. -/
  | flush (selection : Byte)
  /-- CS_N_RISES_AFTER_RELEASE (R158). -/
  | csNRisesAfterRelease
  deriving DecidableEq, Repr

/-- The four capture depths (R9). -/
inductive Depth where
  | none
  | digest
  | first
  | both
  deriving DecidableEq, Repr

/-- The twelve counters of the register file (R166), in register order. -/
inductive CounterName where
  | skipped
  | merged
  | windowDrops
  | lateResponses
  | orphans
  | truncatedRecords
  | discardedEvents
  | decisionTimeouts
  | throttleTimeouts
  | noticesLost
  | linkErrors
  | eventsSent
  deriving DecidableEq, Repr

/-- The six registers of a match unit, in register order (11.1). -/
inductive UnitField where
  | loH
  | loL
  | hiH
  | hiL
  | sel
  | idset
  deriving DecidableEq, Repr

/-- The 63 registers by name (11.1, R185). -/
inductive Reg where
  | partCode
  | runState
  | latency
  | tickDiv
  | capture
  | maxRecords
  | decision
  | lineACfg
  | lineBCfg
  | faultCfg
  | matchCfg
  | matchTable
  | unit (k : Fin 4) (f : UnitField)
  | burstSize
  | throttleMark
  | throttleLimit
  | noticeEn
  | statusPeriod
  | statusSel
  | flagMask
  | curTickHi
  | curTickLo
  | windowCount
  | openCount
  | storeFree
  | queueCount
  | tableCount
  | counter (c : CounterName)
  | flags
  deriving DecidableEq, Repr

/-- The nine condition flags, in the order of their bits (R167, 11.2). -/
inductive Flag where
  | skip
  | timeout
  | orphan
  | storeFull
  | throttle
  | noticeLost
  | windowDrop
  | link
  | drained
  deriving DecidableEq, Repr

/-- The status values of R156. -/
inductive Status where
  | ok
  | check
  | unknown
  | badArg
  | busy
  | notRunning
  | tableFull
  | tagBusy
  | noTag
  | notProvisional
  | tooLate
  deriving DecidableEq, Repr

end Sys2Proof
end

