-- ==== Sys2Proof/Decode.lean ====
section
/-! DEFINITION. The command table gives its rows no bits, so decodeTableWord answers none. What the data book does give
bytes are the control-link frames (R151 to R154, 11.3): decodeFrame reads the command a complete frame makes, encodeFrame
writes the frame of a link command, and bytesOfBits and bitsOfBytes pass between the bits of the line and its bytes. -/

namespace Sys2Proof

/-- No row of spec/opcode_table.json gives bits. -/
def decodeTableWord (_nbits _w : Nat) : Option Instr := none

/-- The bits of bytes as they go on the line, most significant first (R151). -/
def bitsOfByte (b : Byte) : List Bool :=
  [b.getLsbD 7, b.getLsbD 6, b.getLsbD 5, b.getLsbD 4, b.getLsbD 3, b.getLsbD 2, b.getLsbD 1, b.getLsbD 0]

/-- The bits of several bytes, in the order of the bytes (R151). -/
def bitsOfBytes (bytes : List Byte) : List Bool := bytes.flatMap bitsOfByte

/-- The bytes that sampled bits complete: every eighth bit completes one, and bits short of eight complete none (R151). -/
def bytesOfBits : List Bool → List Byte
  | b7 :: b6 :: b5 :: b4 :: b3 :: b2 :: b1 :: b0 :: rest =>
    (BitVec.ofBool b7 ++ BitVec.ofBool b6 ++ BitVec.ofBool b5 ++ BitVec.ofBool b4 ++ BitVec.ofBool b3
      ++ BitVec.ofBool b2 ++ BitVec.ofBool b1 ++ BitVec.ofBool b0) :: bytesOfBits rest
  | _ => []

/-- The number of argument bytes a command byte has (R152); an unknown command has none (R154). -/
def frameArgs (command : Byte) : Nat :=
  if command = 0x02 then 3
  else if command = 0x10 then 2
  else if command ∈ [(0x01 : Byte), 0x11, 0x12, 0x13, 0x22] then 1
  else 0

/-- The bytes of a frame up to its check byte: command, arguments, check (R152). -/
def frameLength (command : Byte) : Nat := frameArgs command + 2

/-- The number of data bytes returned after the status byte (R152). -/
def frameData (command : Byte) : Nat :=
  if command ∈ [(0x01 : Byte), 0x13, 0x30] then 2 else 0

/-- The sum of bytes modulo 256 (R130, R153). -/
def byteSum (bytes : List Byte) : Byte := bytes.foldl (· + ·) 0

/-- A frame is complete when its check byte has been received (R152). -/
def frameComplete (bytes : List Byte) : Bool :=
  match bytes with
  | [] => false
  | c :: _ => frameLength c ≤ bytes.length

/-- The row a READ_REG of a register number is. -/
def readRow (reg : Byte) : Instr :=
  if reg = Config.curTickHiNum then .curTickHiRead
  else if reg = Config.curTickLoNum then .curTickLoRead
  else .readReg reg

/-- The row a WRITE_REG of a register number is. -/
def writeRow (reg : Byte) (value : Word) : Instr :=
  if reg = Config.latencyNum then .latencyWrite value
  else if reg = Config.maxRecordsNum then .maxRecordsWrite value
  else if reg = Config.burstSizeNum then .burstSizeWrite value
  else if reg = Config.throttleMarkNum then .throttleMarkWrite value
  else if reg = Config.statusPeriodNum then .statusPeriodWrite value
  else if reg = Config.flagMaskNum then .flagMaskWrite value
  else .writeReg reg value

/-- The command of a frame whose sum is zero, from its command byte and its argument bytes (11.3). -/
def decodeCommand (command : Byte) (args : List Byte) : Option Instr :=
  match args with
  | [] =>
    if command = 0x00 then some .nop
    else if command = 0x20 then some .start
    else if command = 0x21 then some .stop
    else if command = 0x30 then some .takeFlags
    else some (.unknownCommand command)
  | [a] =>
    if command = 0x01 then some (readRow a)
    else if command = 0x11 then some (.confirm a)
    else if command = 0x12 then some (.cancel a)
    else if command = 0x13 then some (.queryTag a)
    else if command = 0x22 then some (.flush a)
    else none
  | [a, b] => if command = 0x10 then some (.trigger a b) else none
  | [a, b, c] => if command = 0x02 then some (writeRow a (b ++ c)) else none
  | _ => none

/-- The command a frame makes, from the bytes sampled on MOSI since CS_N fell. Bytes after the check byte are discarded
(R151). A frame that is not complete makes none yet. The sum is checked before the command byte is read further (R153). -/
def decodeFrame (bytes : List Byte) : Option Instr :=
  match bytes with
  | [] => none
  | command :: rest =>
    if rest.length < frameArgs command + 1 then none
    else if byteSum (command :: rest.take (frameArgs command + 1)) ≠ 0 then
      some (.badCheckByte (command :: rest.take (frameArgs command + 1)))
    else decodeCommand command (rest.take (frameArgs command))

/-- The command that the bits sampled on MOSI since CS_N fell make; bits after the check byte are discarded (R151). -/
def decodeBits (bits : List Bool) : Option Instr := decodeFrame (bytesOfBits bits)

/-- A frame's bytes with the check byte that brings their sum to zero (R153). -/
def withCheckByte (bytes : List Byte) : List Byte := bytes ++ [- byteSum bytes]

/-- The command byte and argument bytes of a WRITE_REG (11.3; a value goes high byte first). -/
def writeBytes (reg : Byte) (value : Word) : List Byte :=
  [0x02, reg, value.extractLsb' 8 8, value.extractLsb' 0 8]

/-- The frame of a link command (11.3); none for a step that is no frame. A frame that fails its check is its own bytes. -/
def encodeFrame : Instr → Option (List Byte)
  | .nop => some (withCheckByte [0x00])
  | .readReg reg => some (withCheckByte [0x01, reg])
  | .curTickHiRead => some (withCheckByte [0x01, Config.curTickHiNum])
  | .curTickLoRead => some (withCheckByte [0x01, Config.curTickLoNum])
  | .writeReg reg value => some (withCheckByte (writeBytes reg value))
  | .latencyWrite value => some (withCheckByte (writeBytes Config.latencyNum value))
  | .maxRecordsWrite value => some (withCheckByte (writeBytes Config.maxRecordsNum value))
  | .throttleMarkWrite value => some (withCheckByte (writeBytes Config.throttleMarkNum value))
  | .burstSizeWrite value => some (withCheckByte (writeBytes Config.burstSizeNum value))
  | .statusPeriodWrite value => some (withCheckByte (writeBytes Config.statusPeriodNum value))
  | .flagMaskWrite value => some (withCheckByte (writeBytes Config.flagMaskNum value))
  | .trigger tag control => some (withCheckByte [0x10, tag, control])
  | .confirm tag => some (withCheckByte [0x11, tag])
  | .cancel tag => some (withCheckByte [0x12, tag])
  | .queryTag tag => some (withCheckByte [0x13, tag])
  | .start => some (withCheckByte [0x20])
  | .stop => some (withCheckByte [0x21])
  | .flush selection => some (withCheckByte [0x22, selection])
  | .flushWindow => some (withCheckByte [0x22, 0x01])
  | .flushTriggers => some (withCheckByte [0x22, 0x02])
  | .flushEvents => some (withCheckByte [0x22, 0x04])
  | .flushNotices => some (withCheckByte [0x22, 0x08])
  | .flushCounters => some (withCheckByte [0x22, 0x10])
  | .takeFlags => some (withCheckByte [0x30])
  | .unknownCommand command => some (withCheckByte [command])
  | .badCheckByte frame => some frame
  | .tick _ | .horizonAdvance | .decisionDeadline | .throttleTimeout | .statusFrameDue | .requestTaken _
  | .requestPassed | .responseTaken _ | .responsePassed | .mrstAssert | .mrstRelease | .rstNAssert
  | .rstNRelease _ _ _ _ | .lineEdge _ _ | .frameAbort _ | .itemBegin | .itemEnd | .csNRisesAfterRelease => none

/-- The bytes that stand in the open frame once a link command is taken: its command byte to its check byte (R152). A step
that is no frame leaves none. -/
def linkFrame (i : Instr) : List Byte := (encodeFrame i).getD []

/-- The row a frame is read as: the five FLUSH rows of one selection are FLUSH frames (R165). -/
def frameRow : Instr → Instr
  | .flushWindow => .flush 0x01
  | .flushTriggers => .flush 0x02
  | .flushEvents => .flush 0x04
  | .flushNotices => .flush 0x08
  | .flushCounters => .flush 0x10
  | i => i

end Sys2Proof
end

