-- ==== Sys2Proof/Machine/State.lean ====
section
/-! DEFINITION. The state of the KR1520 as plain data, its reset value, and the reasons a step may stop. Every piece is
listed in INVENTORY.md, "State", with its rule. -/

namespace Sys2Proof.Machine

/-- The reasons a step could fault. There is none: the data book gives the block no stop, every error is a status, a
flag, a counter or a notice (log 25). -/
inductive Fault where
  deriving DecidableEq, Repr

/-- The reasons a step could be refused. -/
inductive Refusal where
  /-- Raised by exec's arm of a command that has no meaning yet, with the row's mnemonic; safe, since the step stops. -/
  | notModelled (mnemonic : String)
  deriving DecidableEq, Repr

/-- The recorder state (R172). -/
inductive RecState where
  | off
  | run
  | drain
  deriving DecidableEq, Repr

/-- The five trigger sources (R27). -/
inductive Source where
  | command
  | lineA
  | lineB
  | matcher
  | fault
  deriving DecidableEq, Repr

/-- The data part of an entry or a record (R10): a digest, a first beat, both or neither. -/
structure DataPart where
  digest : Option Word
  firstBeat : Option Beat
  deriving DecidableEq, Repr

/-- The response part of a CLOSED entry (R5): answered by the memory (R14), or closed by MRST (R23). -/
inductive RespPart where
  | answered (status : RespStatus) (latency : Byte) (mismatch : Bool)
  | abandoned
  deriving DecidableEq, Repr

/-- A window entry (R5) in its entry place (R8). It is OPEN while it has no response part. -/
structure Entry where
  place : Nat
  seq : Word
  reqTick : Tick
  kind : Kind
  id : TxId
  addr : Addr
  len : Nat
  partialWrite : Bool
  matchFlags : BitVec 4
  response : Option RespPart
  data : DataPart
  marks : List Slot
  deriving DecidableEq, Repr

/-- The status of a record (R17). -/
inductive RecordStatus where
  | opened
  | okay
  | error
  | abandoned
  deriving DecidableEq, Repr

/-- A record: the copy of a window entry as it stood when it expired (R17, R67). -/
structure Record where
  seq : Word
  reqTick : Tick
  kind : Kind
  id : TxId
  addr : Addr
  len : Nat
  partialWrite : Bool
  matchFlags : BitVec 4
  mismatch : Bool
  status : RecordStatus
  latency : Option Byte
  data : DataPart
  deriving DecidableEq, Repr

/-- The event under build of a live trigger entry (R68). -/
structure EventBuild where
  records : List Record
  truncated : Word
  limitReason : Bool
  storeFullReason : Bool
  missed : Word
  deriving DecidableEq, Repr

/-- The state of a live entry (R26); a deadline is present only while HELD. -/
inductive EntryState where
  | collecting
  | held (deadline : Tick)
  | parked
  deriving DecidableEq, Repr

/-- A live trigger entry (R26) with its event under build (R68). -/
structure Live where
  tag : Tag
  source : Source
  trigTick : Tick
  first : Tick
  last : Tick
  span : Nat
  provisional : Bool
  confirmed : Bool
  state : EntryState
  closeTick : Option Tick
  event : EventBuild
  deriving DecidableEq, Repr

/-- A completed event in the Event Queue (R41, R77). -/
structure Event where
  tag : Tag
  source : Source
  provisional : Bool
  confirmed : Bool
  trigTick : Tick
  first : Tick
  span : Nat
  records : List Record
  truncated : Word
  limitReason : Bool
  storeFullReason : Bool
  missed : Word
  deriving DecidableEq, Repr

/-- The link of an OTT item (R8, R111): an entry by seq and place, none, or EXPIRED. -/
inductive Link where
  | entry (seq : Word) (place : Nat)
  | none
  | expired
  deriving DecidableEq, Repr

/-- An item of the Open Transaction Table (R111). -/
structure OttItem where
  id : TxId
  expected : Nat
  link : Link
  deriving DecidableEq, Repr

/-- A taken request as its transfers were accepted (R105, R109). -/
structure Request where
  header : ReqHeader
  beats : List WriteBeat
  deriving DecidableEq, Repr

/-- The refusals of a trigger (R35). -/
inductive RefuseReason where
  | notRunning
  | tableFull
  | tagBusy
  deriving DecidableEq, Repr

/-- The reasons of a discard (R62). -/
inductive DiscardReason where
  | cancel
  | timeout
  deriving DecidableEq, Repr

/-- The three notices (R134). -/
inductive Notice where
  | skip (source : Source) (tag : Tag) (reason : RefuseReason) (tick : Tick)
  | discard (tag : Tag) (reason : DiscardReason) (freed : Nat) (tick : Tick)
  | orphan (id : TxId) (status : RespStatus) (tick : Tick)
  deriving DecidableEq, Repr

/-- The address form of a RECORD item (R133). -/
inductive AddrForm where
  | full (addr : Addr)
  | delta (d : Word)
  deriving DecidableEq, Repr

/-- The fields of an EVENT_HEADER (R131). -/
structure EventHeader where
  tag : Tag
  source : Source
  provisional : Bool
  confirmed : Bool
  limitReason : Bool
  storeFullReason : Bool
  trigTick : Tick
  first : Tick
  span : Nat
  recordCount : Nat
  truncated : Word
  missed : Word
  deriving DecidableEq, Repr

/-- The fields of a STATUS frame (R142). -/
structure StatusFrame where
  device : BitVec 2
  recState : RecState
  tick : Tick
  windowCount : Nat
  storeFree : Nat
  queueCount : Nat
  reg1 : Byte
  value1 : Word
  reg2 : Byte
  value2 : Word
  deriving DecidableEq, Repr

/-- An item on the trace port with the contents fixed at its beginning (R128 to R134). -/
inductive Item where
  | burstOpen (device : BitVec 2) (number : Byte) (tick : Tick)
  | burstClose (number : Byte) (events : Nat)
  | eventHeader (h : EventHeader)
  | record (r : Record) (offset : BitVec 3) (form : AddrForm)
  | notice (n : Notice)
  | status (f : StatusFrame)
  deriving DecidableEq, Repr

/-- What the framer may choose at a boundary (R135, R136). -/
inductive Choice where
  | notice
  | burstClose
  | eventHeader
  | record
  | burstOpen
  | status
  deriving DecidableEq, Repr

/-- The framer's state (R128). -/
inductive Framer where
  | idle
  | offering (c : Choice)
  | sending (item : Item)
  deriving DecidableEq, Repr

/-- The open burst (R138): the number it carries and its event count. -/
structure Burst where
  number : Byte
  events : Nat
  deriving DecidableEq, Repr

/-- The answer of a frame (R152, R156): the status and the returned data bytes. -/
structure Answer where
  status : Status
  data : List Byte
  deriving DecidableEq, Repr

/-- The six registers of a match unit (R89, 11.1). -/
structure MatchUnit where
  loH : Word
  loL : Word
  hiH : Word
  hiL : Word
  sel : Word
  idset : Word
  deriving DecidableEq, Repr

/-- The setting registers, each the word as it was last written (R186). -/
structure Settings where
  latency : Word
  tickDiv : Word
  capture : Word
  maxRecords : Word
  decision : Word
  lineACfg : Word
  lineBCfg : Word
  faultCfg : Word
  matchCfg : Word
  matchTable : Word
  units : Vector MatchUnit 4
  burstSize : Word
  throttleMark : Word
  throttleLimit : Word
  noticeEn : Word
  statusPeriod : Word
  statusSel : Word
  flagMask : Word
  deriving DecidableEq, Repr

/-- The twelve counters (R166), each 16 bits and saturating. -/
structure Counters where
  skipped : Word
  merged : Word
  windowDrops : Word
  lateResponses : Word
  orphans : Word
  truncatedRecords : Word
  discardedEvents : Word
  decisionTimeouts : Word
  throttleTimeouts : Word
  noticesLost : Word
  linkErrors : Word
  eventsSent : Word
  deriving DecidableEq, Repr

/-- The actions of the last tick that blocks have still to take (log 2): the Path Unit's count and when it comes at the
latest, the horizon advance, the deadlines, the status-frame choice. -/
structure Owed where
  count : Option CountOrder
  horizon : Bool
  deadlines : Bool
  choice : Bool
  deriving DecidableEq, Repr

/-- Nothing owed. -/
def Owed.nothing : Owed :=
  { count := none, horizon := false, deadlines := false, choice := false }

/-- The state of the part (INVENTORY.md, "State"). -/
structure State where
  /-- RST_N is asserted. -/
  rst : Bool
  /-- MRST is asserted. -/
  mrst : Bool
  /-- The device number (R46). -/
  devId : BitVec 2
  /-- The last sampled level of TRGA (R45). -/
  lineA : Bool
  /-- The last sampled level of TRGB (R45). -/
  lineB : Bool
  /-- CS_N has been low since release of RST_N: the link ignores it (R158). -/
  csIgnore : Bool
  /-- CS_N is low, as the last command of the link or release of RST_N left it (R151, log 15). -/
  csLow : Bool
  /-- The bytes completed in the frame that CS_N's low level holds open, up to the check byte (R151, log 15). -/
  frame : List Byte
  /-- The tick number (R2). -/
  tick : Tick
  /-- REFCLK periods counted since the last tick (R1). -/
  periodCount : Nat
  /-- The TICK_DIV the count in progress runs to (R1). -/
  divInForce : Word
  /-- What the last tick still owes (log 2). -/
  owed : Owed
  /-- The recorder state (R172). -/
  recState : RecState
  /-- The throttle is suspended (R182). -/
  suspended : Bool
  /-- The setting registers. -/
  regs : Settings
  /-- The horizon (R3, R16). -/
  horizon : Tick
  /-- The observation window, oldest entry first (R4). -/
  window : List Entry
  /-- The sequence counter (R6). -/
  seq : Word
  /-- The trigger table's slots; none is FREE (R25). -/
  slots : Vector (Option Live) 16
  /-- The parking list, oldest first (R42). -/
  parking : List Slot
  /-- The device tag counter (R31). -/
  deviceTag : Tag
  /-- The Event Queue, head first (R77). -/
  queue : List Event
  /-- The event at the head of the queue is in transmission (R79). -/
  inTransmission : Bool
  /-- The Open Transaction Table, oldest item first (R111). -/
  ott : List OttItem
  /-- The request forward queue, head first (R109). -/
  reqQueue : List Request
  /-- The response forward queue, head first, each as its transfers (R110). -/
  respQueue : List (List RespTransfer)
  /-- The WRITE in assembly (R106). -/
  uqAssembly : Option Request
  /-- The transfers of the response in assembly, oldest first; empty when there is none (R107). -/
  mpAssembly : List RespTransfer
  /-- The throttle tick count (R119). -/
  throttleCount : Word
  /-- The Output Framer's state (R128). -/
  framer : Framer
  /-- The restart condition stands (R149). -/
  restart : Bool
  /-- The open burst (R138). -/
  burst : Option Burst
  /-- The burst number the next burst takes (R138). -/
  burstNumber : Byte
  /-- The beat address of the last record sent in the current event (R133). -/
  prevAddr : Option Addr
  /-- The status timer (R141). -/
  statusTimer : Word
  /-- The Notice Queue, head first (R144). -/
  notices : List Notice
  /-- The answer of the last frame (R152). -/
  answer : Option Answer
  /-- The captured low half of the tick number (R161). -/
  capture : Option Word
  /-- The flag word (R167). -/
  flags : Word
  /-- The twelve counters (R166). -/
  counters : Counters
  /-- The commands that wait, first in, first out. -/
  pending : List Instr
  deriving DecidableEq, Repr

/-- A match unit's reset settings (R89). -/
def MatchUnit.reset : MatchUnit :=
  { loH := 0xFFFF, loL := 0xFFFF, hiH := 0, hiL := 0, sel := 3, idset := 0xFFFF }

/-- The reset values of table 11.1. -/
def Settings.reset : Settings :=
  { latency := 64, tickDiv := 100, capture := 1, maxRecords := 64, decision := 256, lineACfg := 4, lineBCfg := 4,
    faultCfg := 4, matchCfg := 4, matchTable := 0, units := Vector.replicate 4 MatchUnit.reset, burstSize := 4,
    throttleMark := 0, throttleLimit := 4096, noticeEn := 7, statusPeriod := 0, statusSel := 0x013E, flagMask := 0 }

/-- All twelve counters at 0 (R166). -/
def Counters.zero : Counters :=
  { skipped := 0, merged := 0, windowDrops := 0, lateResponses := 0, orphans := 0, truncatedRecords := 0,
    discardedEvents := 0, decisionTimeouts := 0, throttleTimeouts := 0, noticesLost := 0, linkErrors := 0,
    eventsSent := 0 }

/-- The part right after release of RST_N. The pins and the forward queues, which the data book leaves to the board, are
a DESIGN CHOICE (log 11, unsafe): device number 0, lines low, CS_N high, MRST released, path idle. -/
def State.reset : State :=
  { rst := false, mrst := false, devId := 0, lineA := false, lineB := false, csIgnore := false,
    csLow := false, frame := [],
    tick := 0, periodCount := 0, divInForce := 100, owed := Owed.nothing,
    recState := .off, suspended := false, regs := Settings.reset,
    horizon := 16777151, window := [], seq := 0,
    slots := Vector.replicate 16 none, parking := [], deviceTag := Config.firstDeviceTag,
    queue := [], inTransmission := false,
    ott := [], reqQueue := [], respQueue := [], uqAssembly := none, mpAssembly := [], throttleCount := 0,
    framer := .idle, restart := true, burst := none, burstNumber := 0, prevAddr := none, statusTimer := 0,
    notices := [], answer := none, capture := none, flags := 0, counters := Counters.zero, pending := [] }

end Sys2Proof.Machine
end

