-- ==== Sys2Proof/Machine/Operands.lean ====
section
/-! DEFINITION. The fields of the commands' operands and of the register words, the comparisons of ticks, and the
computations on one request, response, entry or item that read no other state: digests, match outcomes, records,
register numbers and ranges, and the bytes of items and answers. -/

namespace Sys2Proof.Machine

/-! ## Ticks (R2) -/

/-- Tick a is at or before tick b (R2). -/
def atOrBefore (a b : Tick) : Bool := decide ((b - a).toNat < 2 ^ 23)

/-- Tick t lies in the range from f to l (R2). -/
def inRange (t f l : Tick) : Bool := atOrBefore f t && atOrBefore t l

/-- The horizon for a tick number and a LATENCY (R3). -/
def horizonOf (tick : Tick) (latency : Word) : Tick := tick - latency.setWidth 24 - 1

/-- The last tick of a range from its first tick and its span (R28, R29). -/
def lastOf (first : Tick) (span : Nat) : Tick := first + BitVec.ofNat 24 span - 1

/-! ## Counters (data book 1.5) -/

/-- A 16-bit count goes up by one and saturates at 65535. -/
def satInc (w : Word) : Word := if w = 0xFFFF then w else w + 1

/-- A 16-bit count goes up by n and saturates at 65535. -/
def satAdd (w : Word) (n : Nat) : Word := BitVec.ofNat 16 (min 65535 (w.toNat + n))

/-! ## Fields of register words (11.2) -/

/-- The capture depth of CAPTURE, bits 1 to 0. -/
def captureDepth (w : Word) : Depth :=
  match (w.extractLsb' 0 2).toNat with
  | 0 => .none
  | 1 => .digest
  | 2 => .first
  | _ => .both

/-- FULL_POLICY is DROP: CAPTURE bit 2. -/
def policyDrop (w : Word) : Bool := w.getLsbD 2

/-- The span of a LINE, FAULT or MATCH configuration, bits 3 to 0. -/
def cfgSpan (w : Word) : Nat := (w.extractLsb' 0 4).toNat

/-- The provisional setting of a configuration, bit 4. -/
def cfgProvisional (w : Word) : Bool := w.getLsbD 4

/-- The enable of a configuration, bit 5. -/
def cfgEnable (w : Word) : Bool := w.getLsbD 5

/-- The pre of MATCH_CFG, bits 10 to 8. -/
def cfgPre (w : Word) : Nat := (w.extractLsb' 8 3).toNat

/-- The first register number of STATUS_SEL, bits 15 to 8 (11.1). -/
def selFirst (w : Word) : Byte := w.extractLsb' 8 8

/-- The second register number of STATUS_SEL, bits 7 to 0 (11.1). -/
def selSecond (w : Word) : Byte := w.extractLsb' 0 8

/-- The span of a TRIGGER's control byte, bits 3 to 0 (R30). -/
def controlSpan (control : Byte) : Nat := (control.extractLsb' 0 4).toNat

/-- The provisional flag of a TRIGGER's control byte, bit 4 (R30). -/
def controlProvisional (control : Byte) : Bool := control.getLsbD 4

/-- A TRIGGER's arguments pass: tag 0 to 191, span 1 to 8, bits 7 to 5 zero (R30). -/
def triggerArgsOk (tag : Tag) (control : Byte) : Bool :=
  tag < Config.firstDeviceTag && 1 ≤ controlSpan control && controlSpan control ≤ 8 && control.extractLsb' 5 3 == 0

/-- A FLUSH's selection byte names nothing but the five selections (R165). -/
def flushArgOk (selection : Byte) : Bool := selection.extractLsb' 5 3 == 0

/-! ## Registers (11.1, R185) -/

/-- The registers of one match unit in order. -/
def unitRegs (k : Fin 4) : List Reg :=
  [.unit k .loH, .unit k .loL, .unit k .hiH, .unit k .hiL, .unit k .sel, .unit k .idset]

/-- The registers in the order of their numbers, 0 to 62. -/
def regTable : List Reg :=
  [.partCode, .runState, .latency, .tickDiv, .capture, .maxRecords, .decision, .lineACfg, .lineBCfg, .faultCfg,
   .matchCfg, .matchTable]
  ++ unitRegs 0 ++ unitRegs 1 ++ unitRegs 2 ++ unitRegs 3
  ++ [.burstSize, .throttleMark, .throttleLimit, .noticeEn, .statusPeriod, .statusSel, .flagMask, .curTickHi,
      .curTickLo, .windowCount, .openCount, .storeFree, .queueCount, .tableCount]
  ++ [.counter .skipped, .counter .merged, .counter .windowDrops, .counter .lateResponses, .counter .orphans,
      .counter .truncatedRecords, .counter .discardedEvents, .counter .decisionTimeouts,
      .counter .throttleTimeouts, .counter .noticesLost, .counter .linkErrors, .counter .eventsSent, .flags]

/-- The register a number names; none above 62. -/
def regOfNum (n : Byte) : Option Reg := regTable[n.toNat]?

/-- The read-only registers (R160). -/
def regReadOnly : Reg → Bool
  | .partCode | .runState | .curTickHi | .curTickLo | .windowCount | .openCount | .storeFree | .queueCount
  | .tableCount | .counter _ | .flags => true
  | .latency | .tickDiv | .capture | .maxRecords | .decision | .lineACfg | .lineBCfg | .faultCfg | .matchCfg
  | .matchTable | .unit _ _ | .burstSize | .throttleMark | .throttleLimit | .noticeEn | .statusPeriod | .statusSel
  | .flagMask => false

/-- The run-locked registers (R160, row 4). -/
def regRunLocked : Reg → Bool
  | .latency | .tickDiv | .capture => true
  | _ => false

/-- A span-and-settings word of LINE_A_CFG, LINE_B_CFG or FAULT_CFG: span 1 to 8, bits 15 to 6 zero (R44, R98, 11.2). -/
def cfgLegal (v : Word) : Bool := v < 64 && 1 ≤ cfgSpan v && cfgSpan v ≤ 8

/-- A value a writable register takes (R160, row 3, with the ranges of the owning rules). -/
def regLegal (r : Reg) (v : Word) : Bool :=
  match r with
  | .latency => 8 ≤ v && v ≤ 1023
  | .tickDiv => v != 0
  | .capture => v < 8
  | .maxRecords => 1 ≤ v && v ≤ 255
  | .decision => 1 ≤ v && v ≤ 4095
  | .lineACfg | .lineBCfg | .faultCfg => cfgLegal v
  | .matchCfg => v &&& 0xF8C0 == 0 && 1 ≤ cfgSpan v && cfgSpan v ≤ 8 && cfgPre v + 1 ≤ cfgSpan v
  | .matchTable => true
  | .unit _ .sel => v < 8 && v.extractLsb' 0 2 != 0
  | .unit _ _ => true
  | .burstSize => 1 ≤ v && v ≤ 16
  | .throttleMark => v ≤ 1023
  | .throttleLimit => v != 0
  | .noticeEn => v < 8
  | .statusPeriod => true
  | .statusSel => selFirst v ≤ 62 && selSecond v ≤ 62
  | .flagMask => v < 512
  | .partCode | .runState | .curTickHi | .curTickLo | .windowCount | .openCount | .storeFree | .queueCount
  | .tableCount | .counter _ | .flags => false

/-- A match unit's register by name. -/
def MatchUnit.get (u : MatchUnit) : UnitField → Word
  | .loH => u.loH
  | .loL => u.loL
  | .hiH => u.hiH
  | .hiL => u.hiL
  | .sel => u.sel
  | .idset => u.idset

/-- One register of a match unit replaced (R91). -/
def MatchUnit.put (u : MatchUnit) (v : Word) : UnitField → MatchUnit
  | .loH => { u with loH := v }
  | .loL => { u with loL := v }
  | .hiH => { u with hiH := v }
  | .hiL => { u with hiL := v }
  | .sel => { u with sel := v }
  | .idset => { u with idset := v }

/-- A setting register replaced whole; a read-only register is not written (R160). -/
def Settings.put (g : Settings) (r : Reg) (v : Word) : Settings :=
  match r with
  | .latency => { g with latency := v }
  | .tickDiv => { g with tickDiv := v }
  | .capture => { g with capture := v }
  | .maxRecords => { g with maxRecords := v }
  | .decision => { g with decision := v }
  | .lineACfg => { g with lineACfg := v }
  | .lineBCfg => { g with lineBCfg := v }
  | .faultCfg => { g with faultCfg := v }
  | .matchCfg => { g with matchCfg := v }
  | .matchTable => { g with matchTable := v }
  | .unit k f => { g with units := g.units.set k.val ((g.units.get k).put v f) k.isLt }
  | .burstSize => { g with burstSize := v }
  | .throttleMark => { g with throttleMark := v }
  | .throttleLimit => { g with throttleLimit := v }
  | .noticeEn => { g with noticeEn := v }
  | .statusPeriod => { g with statusPeriod := v }
  | .statusSel => { g with statusSel := v }
  | .flagMask => { g with flagMask := v }
  | .partCode | .runState | .curTickHi | .curTickLo | .windowCount | .openCount | .storeFree | .queueCount
  | .tableCount | .counter _ | .flags => g

/-- A counter by name. -/
def Counters.get (c : Counters) : CounterName → Word
  | .skipped => c.skipped
  | .merged => c.merged
  | .windowDrops => c.windowDrops
  | .lateResponses => c.lateResponses
  | .orphans => c.orphans
  | .truncatedRecords => c.truncatedRecords
  | .discardedEvents => c.discardedEvents
  | .decisionTimeouts => c.decisionTimeouts
  | .throttleTimeouts => c.throttleTimeouts
  | .noticesLost => c.noticesLost
  | .linkErrors => c.linkErrors
  | .eventsSent => c.eventsSent

/-- A counter increments, saturating (data book 1.5). -/
def Counters.bump (c : Counters) : CounterName → Counters
  | .skipped => { c with skipped := satInc c.skipped }
  | .merged => { c with merged := satInc c.merged }
  | .windowDrops => { c with windowDrops := satInc c.windowDrops }
  | .lateResponses => { c with lateResponses := satInc c.lateResponses }
  | .orphans => { c with orphans := satInc c.orphans }
  | .truncatedRecords => { c with truncatedRecords := satInc c.truncatedRecords }
  | .discardedEvents => { c with discardedEvents := satInc c.discardedEvents }
  | .decisionTimeouts => { c with decisionTimeouts := satInc c.decisionTimeouts }
  | .throttleTimeouts => { c with throttleTimeouts := satInc c.throttleTimeouts }
  | .noticesLost => { c with noticesLost := satInc c.noticesLost }
  | .linkErrors => { c with linkErrors := satInc c.linkErrors }
  | .eventsSent => { c with eventsSent := satInc c.eventsSent }

/-! ## Data parts (R10, R11) -/

/-- A 64-bit value folded to 16 bits (R11). -/
def fold16 (x : Beat) : Word :=
  x.extractLsb' 48 16 ^^^ x.extractLsb' 32 16 ^^^ x.extractLsb' 16 16 ^^^ x.extractLsb' 0 16

/-- The digest of a transaction's beats (R11). -/
def digestOf (beats : List Beat) : Word := fold16 (beats.foldl (· ^^^ ·) 0)

/-- The 64-bit mask of the bytes a beat's enables turn on (R11: byte k is bits 8k+7 down to 8k). -/
def enableMask (enables : BitVec 8) : Beat :=
  let byte (k : Nat) : BitVec 8 := if enables.getLsbD k then 0xFF else 0
  byte 7 ++ byte 6 ++ byte 5 ++ byte 4 ++ byte 3 ++ byte 2 ++ byte 1 ++ byte 0

/-- A write beat with every byte whose enable is off taken as zero (R10). -/
def maskedBeat (b : WriteBeat) : Beat := b.data &&& enableMask b.enables

/-- The data part of beats under a capture depth (R10). -/
def dataPart (depth : Depth) (beats : List Beat) : DataPart :=
  match depth with
  | .none => { digest := none, firstBeat := none }
  | .digest => { digest := some (digestOf beats), firstBeat := none }
  | .first => { digest := none, firstBeat := beats.head? }
  | .both => { digest := some (digestOf beats), firstBeat := beats.head? }

/-- No data part. -/
def noData : DataPart := { digest := none, firstBeat := none }

/-- A READ's data part at fill: absent when the response carries no read beats (R10). -/
def readData (depth : Depth) (beats : List Beat) : DataPart :=
  if beats.isEmpty then noData else dataPart depth beats

/-- The partial flag of a WRITE: any byte enable of any beat is off (R11). -/
def isPartial (beats : List WriteBeat) : Bool := beats.any (fun b => b.enables != 0xFF)

/-- A request's expected beats: the length of a READ, 0 for a WRITE (R111). -/
def expectedBeats (h : ReqHeader) : Nat :=
  match h.kind with
  | .read => h.len
  | .write => 0

/-! ## Match units (R90, R94) -/

/-- A unit's low bound (R91). -/
def MatchUnit.low (u : MatchUnit) : Addr := u.loH ++ u.loL

/-- A unit's high bound (R91). -/
def MatchUnit.high (u : MatchUnit) : Addr := u.hiH ++ u.hiL

/-- The kind criterion: SEL bits 1 to 0 are 1 READ, 2 WRITE, 3 both (R90, 11.2). -/
def MatchUnit.kindHolds (u : MatchUnit) (k : Kind) : Bool :=
  match k with
  | .read => u.sel.getLsbD 0
  | .write => u.sel.getLsbD 1

/-- A unit's outcome for a request: range, kind and ID criteria, reversed by invert (R90). -/
def MatchUnit.outcome (u : MatchUnit) (h : ReqHeader) : Bool :=
  (decide (u.low ≤ h.addr) && decide (h.addr ≤ u.high) && u.kindHolds h.kind && u.idset.getLsbD h.id.toNat)
    != u.sel.getLsbD 2

/-- The four outcomes of a request, bit k from unit k: the match flags (R92) and the index into MATCH_TABLE (R94). -/
def outcomes (units : Vector MatchUnit 4) (h : ReqHeader) : BitVec 4 :=
  BitVec.ofBool ((units.get 3).outcome h) ++ BitVec.ofBool ((units.get 2).outcome h)
    ++ BitVec.ofBool ((units.get 1).outcome h) ++ BitVec.ofBool ((units.get 0).outcome h)

/-- A request fires a MATCH trigger: MATCH_CFG enabled and its MATCH_TABLE entry 1 (R96). -/
def matchFires (g : Settings) (h : ReqHeader) : Bool :=
  cfgEnable g.matchCfg && g.matchTable.getLsbD (outcomes g.units h).toNat

/-! ## Responses as taken (R107) -/

/-- The status of a response: ERROR if any transfer carried ERROR (R107). -/
def respStatus (ts : List RespTransfer) : RespStatus :=
  if ts.any (fun t => t.status == .error) then .error else .okay

/-- The read beats of a response: the data of the transfers with the beat indication on, in order (R107). -/
def readBeats (ts : List RespTransfer) : List Beat := (ts.filter (·.beat)).map (·.data)

/-- The ID of a response is the ID of its first transfer (R107). -/
def respId (ts : List RespTransfer) : TxId :=
  match ts with
  | [] => 0
  | t :: _ => t.id

/-! ## Entries and records -/

/-- An entry is OPEN while it has no response part (R5). -/
def Entry.isOpen (e : Entry) : Bool := e.response.isNone

/-- The record status of an entry as it leaves (R17). -/
def Entry.recordStatus (e : Entry) : RecordStatus :=
  match e.response with
  | none => .opened
  | some (.answered .okay _ _) => .okay
  | some (.answered .error _ _) => .error
  | some .abandoned => .abandoned

/-- The copy of an entry that a record offer hands over (R17). -/
def Entry.copy (e : Entry) : Record :=
  { seq := e.seq, reqTick := e.reqTick, kind := e.kind, id := e.id, addr := e.addr, len := e.len,
    partialWrite := e.partialWrite, matchFlags := e.matchFlags,
    mismatch := match e.response with
      | some (.answered _ _ m) => m
      | _ => false,
    status := e.recordStatus,
    latency := match e.response with
      | some (.answered _ l _) => some l
      | _ => none,
    data := e.data }

/-- An entry is named by an entry link (R8). -/
def Entry.namedBy (e : Entry) (l : Link) : Bool := l == .entry e.seq e.place

/-- All slot numbers in increasing order. -/
def allSlots : List Slot := List.finRange 16

/-- An entry given the mark of a slot; the marks stay a set, in increasing order (R19). -/
def Entry.mark (e : Entry) (k : Slot) : Entry :=
  { e with marks := allSlots.filter (fun j => j == k || e.marks.contains j) }

/-- An entry without the mark of a slot (R21). -/
def Entry.unmark (e : Entry) (k : Slot) : Entry := { e with marks := e.marks.filter (fun j => j != k) }

/-- An OPEN entry closed by MRST; a READ keeps no data part (R23). -/
def Entry.abandon (e : Entry) : Entry := if e.isOpen then { e with response := some .abandoned } else e

/-- A new event under build (R68). -/
def EventBuild.opened : EventBuild :=
  { records := [], truncated := 0, limitReason := false, storeFullReason := false, missed := 0 }

/-- The completed event a live entry hands over (R41). -/
def Live.completed (l : Live) : Event :=
  { tag := l.tag, source := l.source, provisional := l.provisional, confirmed := l.confirmed, trigTick := l.trigTick,
    first := l.first, span := l.span, records := l.event.records, truncated := l.event.truncated,
    limitReason := l.event.limitReason, storeFullReason := l.event.storeFullReason, missed := l.event.missed }

/-- The EVENT_HEADER of a completed event (R131). -/
def Event.header (e : Event) : EventHeader :=
  { tag := e.tag, source := e.source, provisional := e.provisional, confirmed := e.confirmed,
    limitReason := e.limitReason, storeFullReason := e.storeFullReason, trigTick := e.trigTick, first := e.first,
    span := e.span, recordCount := e.records.length, truncated := e.truncated, missed := e.missed }

/-- A COLLECTING entry whose range contains a tick. -/
def Live.collects (l : Live) (t : Tick) : Bool := l.state == .collecting && inRange t l.first l.last

/-- The tick offset of a record: request tick minus the event's first tick, 0 to 7 (R132). -/
def tickOffset (r : Record) (first : Tick) : BitVec 3 := (r.reqTick - first).setWidth 3

/-- The address form of a record: full for the first of an event, delta when the signed difference from the previous
beat address fits 16 bits (R133). -/
def addrForm (prev : Option Addr) (a : Addr) : AddrForm :=
  match prev with
  | none => .full a
  | some p =>
    if -32768 ≤ (a - p).toInt ∧ (a - p).toInt ≤ 32767 then .delta ((a - p).setWidth 16) else .full a

/-! ## Codes and bytes (11.2 to 11.4) -/

/-- The code of a recorder state (11.2). -/
def RecState.code : RecState → BitVec 2
  | .off => 0
  | .run => 1
  | .drain => 2

/-- The code of a trigger source (11.4). -/
def Source.code : Source → BitVec 3
  | .command => 0
  | .lineA => 1
  | .lineB => 2
  | .matcher => 3
  | .fault => 4

/-- The value of a status byte (R156). -/
def statusCode : Status → Byte
  | .ok => 0
  | .check => 1
  | .unknown => 2
  | .badArg => 3
  | .busy => 4
  | .notRunning => 5
  | .tableFull => 6
  | .tagBusy => 7
  | .noTag => 8
  | .notProvisional => 9
  | .tooLate => 10

/-- The status a refused TRIGGER is answered with (R35). -/
def RefuseReason.status : RefuseReason → Status
  | .notRunning => .notRunning
  | .tableFull => .tableFull
  | .tagBusy => .tagBusy

/-- The code of a discard reason (11.4). -/
def DiscardReason.code : DiscardReason → Byte
  | .cancel => 0
  | .timeout => 1

/-- The code of a record status (11.4). -/
def RecordStatus.code : RecordStatus → BitVec 2
  | .opened => 0
  | .okay => 1
  | .error => 2
  | .abandoned => 3

/-- The bit of a kind (11.4). -/
def kindBit : Kind → BitVec 1
  | .read => 0
  | .write => 1

/-- The bit of a response status (11.4). -/
def respStatusBit : RespStatus → BitVec 1
  | .okay => 0
  | .error => 1

/-- The state byte of QUERY_TAG (11.3); FREE is 0. -/
def EntryState.code : EntryState → Byte
  | .collecting => 1
  | .held _ => 2
  | .parked => 3

/-- A 16-bit value, high byte first (11.4). -/
def bytes2 (w : Word) : List Byte := [w.extractLsb' 8 8, w.extractLsb' 0 8]

/-- A count in two bytes, high byte first (11.4). -/
def count2 (n : Nat) : List Byte := bytes2 (BitVec.ofNat 16 n)

/-- A tick in three bytes, high byte first (11.4). -/
def bytes3 (t : Tick) : List Byte := [t.extractLsb' 16 8, t.extractLsb' 8 8, t.extractLsb' 0 8]

/-- A beat address in four bytes, high byte first (11.4). -/
def bytes4 (a : Addr) : List Byte := bytes2 (a.extractLsb' 16 16) ++ bytes2 (a.extractLsb' 0 16)

/-- A first beat in eight bytes, bits 63 to 56 first (11.4). -/
def bytes8 (b : Beat) : List Byte := bytes4 (b.extractLsb' 32 32) ++ bytes4 (b.extractLsb' 0 32)

/-- The address bytes of a RECORD (R133). -/
def AddrForm.bytes : AddrForm → List Byte
  | .full a => bytes4 a
  | .delta d => bytes2 d

/-- Is the address carried in the full form? -/
def AddrForm.isFull : AddrForm → Bool
  | .full _ => true
  | .delta _ => false

/-- The record flags byte (11.4). -/
def recordFlags (r : Record) (form : AddrForm) : Byte :=
  BitVec.ofBool r.data.firstBeat.isSome ++ BitVec.ofBool r.data.digest.isSome ++ BitVec.ofBool form.isFull
    ++ r.status.code ++ BitVec.ofBool r.mismatch ++ BitVec.ofBool r.partialWrite ++ kindBit r.kind

/-- The source and flags byte of an EVENT_HEADER (11.4). Bit 7, which 11.4 names no field for, is sent as 0: DESIGN CHOICE,
log 29. -/
def headerFlags (h : EventHeader) : Byte :=
  (0 : BitVec 1) ++ BitVec.ofBool h.storeFullReason ++ BitVec.ofBool h.limitReason ++ BitVec.ofBool h.confirmed
    ++ BitVec.ofBool h.provisional ++ h.source.code

/-- The bytes of an item before its check byte, type byte first (11.4). The bits that 11.4 names no field for are sent as 0,
which is a DESIGN CHOICE (log 29): bit 7 of a RECORD's length byte, bits 7 to 5 of an ORPHAN's ID byte, bits 7 to 4 of a
STATUS frame's device byte, and bit 7 of the EVENT_HEADER's flags. -/
def Item.body : Item → List Byte
  | .burstOpen device number tick => [0xA1, device.setWidth 8, number] ++ bytes3 tick
  | .burstClose number events => [0xA2, number, BitVec.ofNat 8 events]
  | .eventHeader h =>
    [0xB1, h.tag, headerFlags h] ++ bytes3 h.trigTick ++ bytes3 h.first
      ++ [BitVec.ofNat 8 h.span, BitVec.ofNat 8 h.recordCount] ++ bytes2 h.truncated ++ bytes2 h.missed
  | .record r offset form =>
    [0xB2, recordFlags r form, r.matchFlags ++ r.id, (0 : BitVec 1) ++ offset ++ BitVec.ofNat 4 (r.len - 1)]
      ++ bytes2 r.seq ++ form.bytes ++ r.latency.toList
      ++ (match r.data.digest with
          | none => []
          | some d => bytes2 d)
      ++ (match r.data.firstBeat with
          | none => []
          | some b => bytes8 b)
  | .notice (.skip source tag reason tick) =>
    [0xC1, source.code.setWidth 8, tag, statusCode reason.status] ++ bytes3 tick
  | .notice (.discard tag reason freed tick) => [0xC2, tag, reason.code, BitVec.ofNat 8 freed] ++ bytes3 tick
  | .notice (.orphan id st tick) => [0xC3, (0 : BitVec 3) ++ respStatusBit st ++ id] ++ bytes3 tick
  | .status f =>
    [0xD1, (0 : BitVec 4) ++ f.recState.code ++ f.device] ++ bytes3 f.tick ++ count2 f.windowCount
      ++ count2 f.storeFree ++ [BitVec.ofNat 8 f.queueCount, f.reg1] ++ bytes2 f.value1 ++ [f.reg2]
      ++ bytes2 f.value2

/-- The bytes of an item in the order they move, check byte last (R130). -/
def Item.bytes (i : Item) : List Byte := withCheckByte i.body

/-- The bytes MISO drives after the check byte: the status byte, then the returned data (R156). -/
def Answer.bytes (a : Answer) : List Byte := statusCode a.status :: a.data

end Sys2Proof.Machine
end

