-- ==== Sys2Proof/Machine/Flags.lean ====
section
/-! DEFINITION. The condition flags, the counters and ATTN_N (R166 to R171). -/

namespace Sys2Proof.Machine

/-- The place of a flag in the flag word (11.2). -/
def flagIndex : Flag → Nat
  | .skip => 0
  | .timeout => 1
  | .orphan => 2
  | .storeFull => 3
  | .throttle => 4
  | .noticeLost => 5
  | .windowDrop => 6
  | .link => 7
  | .drained => 8

/-- The flag word with one flag set. -/
def flagBit (f : Flag) : Word := 1#16 <<< flagIndex f

/-- A flag's cause sets it; a set flag stays set (R167). -/
def State.raise (s : State) (f : Flag) : State := { s with flags := s.flags ||| flagBit f }

/-- A flag stands set. -/
def State.flagSet (s : State) (f : Flag) : Bool := s.flags.getLsbD (flagIndex f)

/-- A counter counts one cause (data book 1.5). -/
def State.count (s : State) (c : CounterName) : State := { s with counters := s.counters.bump c }

/-- ATTN_N is driven low: a set flag is enabled in FLAG_MASK; it is high while RST_N is asserted (R171). -/
def State.attnLow (s : State) : Bool := !s.rst && (s.flags &&& s.regs.flagMask) != 0

/-- A link error: LINK_ERRORS counts it and the LINK flag is set (R157). -/
def State.linkError (s : State) : State := (s.count .linkErrors).raise .link

end Sys2Proof.Machine
end

