-- ==== Sys2Proof/Machine/Ops.lean ====
section
/-! DEFINITION. The named operations over the state that the commands share: what is computed from the state (free
slots, hold reasons, the framer's choice), the Notice Queue, the Trigger Table's acts, the Event Queue and the parking
list, the end of DRAIN, register access, and the frame of a link command. -/

namespace Sys2Proof.Machine

/-! ## Slots of the Trigger Table (R25) -/

/-- The live entry of a slot; none when the slot is FREE. -/
def State.slot (s : State) (k : Slot) : Option Live := s.slots.get k

/-- A slot's content replaced. -/
def State.setSlot (s : State) (k : Slot) (l : Option Live) : State := { s with slots := s.slots.set k.val l k.isLt }

/-- The number of live entries (R47, R188). -/
def State.liveCount (s : State) : Nat := (allSlots.filter (fun k => (s.slot k).isSome)).length

/-- The lowest FREE slot (R37). -/
def State.lowestFree (s : State) : Option Slot := allSlots.find? (fun k => (s.slot k).isNone)

/-- The slot whose live entry holds a tag (R25: at most one does). -/
def State.findTag (s : State) (tag : Tag) : Option Slot :=
  allSlots.find? (fun k => (s.slot k).any (fun l => l.tag == tag))

/-- A live entry holds a tag. -/
def State.tagHeld (s : State) (tag : Tag) : Bool := (s.findTag tag).isSome

/-! ## Record slots (R67, R83, R84) -/

/-- Records held by the events under build. -/
def State.buildRecords (s : State) : Nat :=
  (allSlots.map (fun k => match s.slot k with
    | none => 0
    | some l => l.event.records.length)).sum

/-- Records held by the events in the Event Queue. -/
def State.queueRecords (s : State) : Nat := (s.queue.map (fun e => e.records.length)).sum

/-- The free-slot count: 1024 minus the records held (R67, log 14). -/
def State.freeSlots (s : State) : Nat := Config.recordSlots - (s.buildRecords + s.queueRecords)

/-- A free-slot count of 1024 ends a throttle suspension (R83, R183). -/
def State.storeChanged (s : State) : State := if s.freeSlots = Config.recordSlots then { s with suspended := false } else s

/-! ## Hold reasons (R116) -/

/-- FORWARD_FULL applies. -/
def State.forwardFull (s : State) : Bool := Config.forwardPlaces ≤ s.reqQueue.length

/-- OTT_FULL applies. -/
def State.ottFull (s : State) : Bool := Config.ottItems ≤ s.ott.length

/-- WINDOW_FULL applies (R12). -/
def State.windowFull (s : State) : Bool :=
  s.recState == .run && !policyDrop s.regs.capture && Config.windowPlaces ≤ s.window.length

/-- THROTTLE applies (R83, R120). -/
def State.throttleHold (s : State) : Bool :=
  s.recState == .run && s.regs.throttleMark != 0 && s.freeSlots < s.regs.throttleMark.toNat && !s.suspended

/-- RESET applies. -/
def State.resetHold (s : State) : Bool := s.rst || s.mrst

/-- Any hold reason applies: the next header is not accepted (R116). -/
def State.held (s : State) : Bool :=
  s.forwardFull || s.ottFull || s.windowFull || s.throttleHold || s.resetHold

/-! ## The framer's choice (R135, R136, R149) -/

/-- A status frame is due (R141). -/
def State.statusDue (s : State) : Bool := s.regs.statusPeriod != 0 && s.regs.statusPeriod ≤ s.statusTimer

/-- The choice while the restart condition stands (R149). -/
def State.restartChoice (s : State) : Option Choice :=
  if !s.notices.isEmpty || s.statusDue then some .status
  else if !s.queue.isEmpty then some .burstOpen
  else none

/-- The choice by rows 2 to 7 of R135. -/
def State.boundaryChoice (s : State) : Option Choice :=
  if !s.notices.isEmpty then some .notice
  else match s.burst with
    | some b =>
      if s.regs.burstSize.toNat ≤ b.events || s.queue.isEmpty then some .burstClose else some .eventHeader
    | none =>
      if !s.queue.isEmpty then some .burstOpen
      else if s.statusDue then some .status
      else none

/-- The framer's choice at a boundary: inside an event its next record and nothing else (R136), else by R135. -/
def State.choose (s : State) : Option Choice :=
  if s.rst then none
  else if s.inTransmission then some .record
  else if s.restart then s.restartChoice
  else s.boundaryChoice

/-- The framer at a boundary takes its choice: OFFERING it, or IDLE (R128). -/
def State.offer (s : State) : State :=
  { s with framer := match s.choose with
      | none => .idle
      | some c => .offering c }

/-- A change of what is available re-makes the choice, unless an item is being sent (R129). -/
def State.rechoose (s : State) : State :=
  match s.framer with
  | .sending _ => s
  | .idle => s.offer
  | .offering _ => s.offer

/-! ## The Notice Queue (R144 to R146) -/

/-- A notice of a kind is enabled in NOTICE_EN (R146, 11.2). -/
def State.noticeEnabled (s : State) (n : Notice) : Bool :=
  match n with
  | .skip _ _ _ _ => s.regs.noticeEn.getLsbD 0
  | .discard _ _ _ _ => s.regs.noticeEn.getLsbD 1
  | .orphan _ _ _ => s.regs.noticeEn.getLsbD 2

/-- A notice is offered: it joins the tail, or is lost and counted; a disabled kind is not offered (R144, R146). -/
def State.notify (s : State) (n : Notice) : State :=
  if s.noticeEnabled n then
    if s.notices.length < Config.noticePlaces then ({ s with notices := s.notices ++ [n] }).rechoose
    else (s.count .noticesLost).raise .noticeLost
  else s

/-! ## The end of DRAIN (R176, R177) -/

/-- The window and the Trigger Table are both empty. -/
def State.settled (s : State) : Bool := s.window.isEmpty && s.liveCount == 0

/-- Run Control's test: DRAIN ends when both are empty, and DRAINED is set (R177). -/
def State.drainTest (s : State) : State :=
  if s.recState = .drain ∧ s.settled then ({ s with recState := .off }).raise .drained else s

/-! ## The Event Queue and the parking list (R41, R42, R78, R82) -/

/-- The Event Queue has a free place (R77). -/
def State.queueRoom (s : State) : Bool := s.queue.length < Config.queuePlaces

/-- Hand-over: the slot's event enters the queue at the tail and the slot becomes FREE (R41, R78). -/
def State.handOver (s : State) (k : Slot) : State :=
  match s.slot k with
  | none => s
  | some l => (({ s with queue := s.queue ++ [l.completed] }).setSlot k none).rechoose

/-- Parking: the entry becomes PARKED at the tail of the parking list (R42). -/
def State.park (s : State) (k : Slot) : State :=
  match s.slot k with
  | none => s
  | some l => ({ s with parking := s.parking ++ [k] }).setSlot k (some { l with state := .parked })

/-- A completed event is handed over, or its entry parks when the queue is full (R40, R57). -/
def State.handOn (s : State) (k : Slot) : State := if s.queueRoom then s.handOver k else s.park k

/-- Freed places go to the heads of the parking list in turn (R82). -/
def serveParking : List Slot → State → State
  | [], s => s
  | k :: rest, s => if s.queueRoom then serveParking rest (({ s with parking := rest }).handOver k) else s

/-- The places free in the queue are given to the parking list (R82). -/
def State.placesFreed (s : State) : State := serveParking s.parking s

/-! ## Marks (R19 to R21) -/

/-- Admission marks every present entry of the range (R20). -/
def State.markRange (s : State) (k : Slot) (first last : Tick) : State :=
  { s with window := s.window.map (fun e => if inRange e.reqTick first last then e.mark k else e) }

/-- The slot's mark is removed from every entry (R21). -/
def State.unmarkAll (s : State) (k : Slot) : State := { s with window := s.window.map (fun e => e.unmark k) }

/-- The slots that are COLLECTING with a range that contains a tick, in increasing order. -/
def State.collectors (s : State) (t : Tick) : List Slot :=
  allSlots.filter (fun k => (s.slot k).any (fun l => l.collects t))

/-! ## Discard (R60, R62, R63, R75) -/

/-- Discarding an entry: its marks go if it is COLLECTING, its records and its slot are freed, and Run Control tests
DRAIN (R60). -/
def State.discard (s : State) (k : Slot) : State :=
  match s.slot k with
  | none => s
  | some l =>
    (((if l.state = .collecting then s.unmarkAll k else s).setSlot k none).storeChanged).drainTest

/-- The counts and flag of a discard by cancel or timeout (R63). -/
def State.countDiscard (s : State) (reason : DiscardReason) : State :=
  match reason with
  | .cancel => s.count .discardedEvents
  | .timeout => ((s.count .discardedEvents).count .decisionTimeouts).raise .timeout

/-- A discard with its counts and its DISCARD notice (R60, R62, R63). -/
def State.discardReported (s : State) (k : Slot) (reason : DiscardReason) : State :=
  match s.slot k with
  | none => s
  | some l =>
    ((s.discard k).countDiscard reason).notify (.discard l.tag reason l.event.records.length s.tick)

/-! ## Trigger arrivals (R27 to R38) -/

/-- A trigger as it arrives (R27): source, the command's tag, trigger tick, first tick, span, provisional. -/
structure Arrival where
  source : Source
  tag : Tag
  trigTick : Tick
  first : Tick
  span : Nat
  provisional : Bool
  deriving DecidableEq, Repr

/-- What becomes of an arrival (R32). -/
inductive Fate where
  | ignored
  | refused (r : RefuseReason)
  | merged
  | admitted
  deriving DecidableEq, Repr

/-- The source takes a device tag: every source but COMMAND (R31). -/
def takesDeviceTag (src : Source) : Bool := src != .command

/-- The source may merge: MATCH and FAULT (R36). -/
def mayMerge (src : Source) : Bool := src == .matcher || src == .fault

/-- The source is a trigger line. -/
def isLine (src : Source) : Bool := src == .lineA || src == .lineB

/-- The device tag after one: 255 is followed by 192 (R31). -/
def nextDeviceTag (t : Tag) : Tag := if t = 255 then Config.firstDeviceTag else t + 1

/-- The first free device tag from a counter value upward, within n steps (R31). -/
def searchTag (held : Tag → Bool) : Nat → Tag → Tag
  | 0, t => t
  | n + 1, t => if held t then searchTag held n (nextDeviceTag t) else t

/-- The device tag that an admission takes (R31). -/
def State.deviceTagFor (s : State) : Tag := searchTag s.tagHeld 63 s.deviceTag

/-- The refusal of a trigger: SKIPPED, the SKIP flag, a SKIP notice (R35). -/
def State.refuse (s : State) (a : Arrival) (r : RefuseReason) : State :=
  ((s.count .skipped).raise .skip).notify
    (.skip a.source (if a.source = .command then a.tag else Config.noTag) r s.tick)

/-- The live entry that an admission writes (R37). -/
def Arrival.entry (a : Arrival) (tag : Tag) : Live :=
  { tag := tag, source := a.source, trigTick := a.trigTick, first := a.first, last := lastOf a.first a.span,
    span := a.span, provisional := a.provisional, confirmed := false, state := .collecting, closeTick := none,
    event := EventBuild.opened }

/-- Admission into a slot: device tag, entry, event under build, marks (R37). -/
def State.admitInto (s : State) (a : Arrival) (k : Slot) : State :=
  let tag := if takesDeviceTag a.source then s.deviceTagFor else a.tag
  (({ s with deviceTag := if takesDeviceTag a.source then nextDeviceTag tag else s.deviceTag }).setSlot k
    (some (a.entry tag))).markRange k a.first (lastOf a.first a.span)

/-- A COLLECTING entry of the same source covers the arrival's first tick (R36). -/
def State.covered (s : State) (a : Arrival) : Bool :=
  allSlots.any (fun k => (s.slot k).any (fun l => l.source == a.source && l.collects a.first))

/-- What becomes of an arrival, by the order of R32. -/
def State.fate (s : State) (a : Arrival) : Fate :=
  if !mayMerge a.source && s.recState != .run then
    if isLine a.source && s.recState == .off then .ignored else .refused .notRunning
  else if a.source == .command && s.tagHeld a.tag then .refused .tagBusy
  else if mayMerge a.source && s.covered a then .merged
  else match s.lowestFree with
    | none => .refused .tableFull
    | some _ => .admitted

/-- An arrival is taken by the table (R32 to R37). -/
def State.arrive (s : State) (a : Arrival) : State :=
  match s.fate a with
  | .ignored => s
  | .refused r => s.refuse a r
  | .merged => s.count .merged
  | .admitted =>
    match s.lowestFree with
    | none => s
    | some k => s.admitInto a k

/-- The first tick of a past range (R28). -/
def State.pastFirst (s : State) : Tick := s.tick - s.regs.latency.setWidth 24

/-- A line's trigger, with the settings of its configuration word (R44, R45). -/
def State.lineArrival (s : State) (line : TrigLine) : Arrival :=
  let cfg := match line with
    | .trgA => s.regs.lineACfg
    | .trgB => s.regs.lineBCfg
  { source := match line with
      | .trgA => .lineA
      | .trgB => .lineB,
    tag := Config.noTag, trigTick := s.tick, first := s.pastFirst, span := cfgSpan cfg,
    provisional := cfgProvisional cfg }

/-- A TRIGGER command's trigger (R27, R30). -/
def State.commandArrival (s : State) (tag : Tag) (control : Byte) : Arrival :=
  { source := .command, tag := tag, trigTick := s.tick, first := s.pastFirst, span := controlSpan control,
    provisional := controlProvisional control }

/-- The MATCH trigger of a request taken at this tick (R29, R96). -/
def State.matchArrival (s : State) : Arrival :=
  { source := .matcher, tag := Config.noTag, trigTick := s.tick,
    first := s.tick - BitVec.ofNat 24 (cfgPre s.regs.matchCfg), span := cfgSpan s.regs.matchCfg,
    provisional := cfgProvisional s.regs.matchCfg }

/-- The FAULT trigger of an ERROR response taken at this tick (R99). -/
def State.faultArrival (s : State) : Arrival :=
  { source := .fault, tag := Config.noTag, trigTick := s.tick, first := s.pastFirst,
    span := cfgSpan s.regs.faultCfg, provisional := cfgProvisional s.regs.faultCfg }

/-! ## Register access (R159 to R161, R186 to R188) -/

/-- RUN_STATE: recorder state, hold reasons, suspension (R187, 11.2). -/
def State.runStateWord (s : State) : Word :=
  (0 : BitVec 8) ++ BitVec.ofBool s.suspended ++ BitVec.ofBool s.resetHold ++ BitVec.ofBool s.throttleHold
    ++ BitVec.ofBool s.windowFull ++ BitVec.ofBool s.ottFull ++ BitVec.ofBool s.forwardFull ++ s.recState.code

/-- The value of a register, CUR_TICK_LO live (R142, R186 to R188). -/
def State.regValue (s : State) (r : Reg) : Word :=
  match r with
  | .partCode => Config.partCode
  | .runState => s.runStateWord
  | .latency => s.regs.latency
  | .tickDiv => s.regs.tickDiv
  | .capture => s.regs.capture
  | .maxRecords => s.regs.maxRecords
  | .decision => s.regs.decision
  | .lineACfg => s.regs.lineACfg
  | .lineBCfg => s.regs.lineBCfg
  | .faultCfg => s.regs.faultCfg
  | .matchCfg => s.regs.matchCfg
  | .matchTable => s.regs.matchTable
  | .unit k f => (s.regs.units.get k).get f
  | .burstSize => s.regs.burstSize
  | .throttleMark => s.regs.throttleMark
  | .throttleLimit => s.regs.throttleLimit
  | .noticeEn => s.regs.noticeEn
  | .statusPeriod => s.regs.statusPeriod
  | .statusSel => s.regs.statusSel
  | .flagMask => s.regs.flagMask
  | .curTickHi => (s.tick.extractLsb' 16 8).setWidth 16
  | .curTickLo => s.tick.extractLsb' 0 16
  | .windowCount => BitVec.ofNat 16 s.window.length
  | .openCount => BitVec.ofNat 16 s.ott.length
  | .storeFree => BitVec.ofNat 16 s.freeSlots
  | .queueCount => BitVec.ofNat 16 s.queue.length
  | .tableCount => BitVec.ofNat 16 s.liveCount
  | .counter c => s.counters.get c
  | .flags => s.flags

/-- The value of a register by number, as a STATUS frame carries it; 0 above 62, which STATUS_SEL never names. -/
def State.regValueAt (s : State) (n : Byte) : Word :=
  match regOfNum n with
  | none => 0
  | some r => s.regValue r

/-- The status of a WRITE_REG, by the order of R160. -/
def State.writeStatus (s : State) (n : Byte) (v : Word) : Status :=
  match regOfNum n with
  | none => .badArg
  | some r =>
    if regReadOnly r then .badArg
    else if !regLegal r v then .badArg
    else if regRunLocked r && s.recState != .off then .busy
    else if r == .maxRecords && (s.recState != .off || s.freeSlots != Config.recordSlots) then .busy
    else .ok

/-- What else a write answered OK does at once: LATENCY moves the horizon (R3); BURST_SIZE and STATUS_PERIOD re-make the
framer's choice (R140, R143). The other settings are read where they are used. -/
def State.applyWrite (s : State) (r : Reg) : State :=
  match r with
  | .latency => { s with horizon := horizonOf s.tick s.regs.latency }
  | .burstSize | .statusPeriod => s.rechoose
  | _ => s

/-- A register written (R160): a refused write changes nothing. -/
def State.writeReg (s : State) (n : Byte) (v : Word) : State :=
  match s.writeStatus n v, regOfNum n with
  | .ok, some r => ({ s with regs := s.regs.put r v }).applyWrite r
  | _, _ => s

/-! ## Link commands (R151, R152, R158) -/

/-- The link takes frames: not while RST_N is asserted, nor while CS_N has stayed low since its release (R158). -/
def State.linkOpen (s : State) : Bool := !s.rst && !s.csIgnore

/-- A link command's frame is taken at its check byte: CS_N is low, the frame's bytes stand, and the answer is fixed (R151,
R152). The rising and falling of CS_N between two frames are part of the later one (log 15). -/
def State.reply (s : State) (c : Instr) (status : Status) (data : List Byte) : State :=
  { s with csLow := true, frame := linkFrame c, answer := some ⟨status, data⟩ }

/-- A link command: it acts when the link takes frames, and is not there otherwise (R158, log 7). -/
def State.onLink (s : State) (act : State → State) : State := if s.linkOpen then act s else s

/-- A WRITE_REG frame taken (R160). -/
def State.writeCommand (s : State) (n : Byte) (v : Word) : State :=
  s.onLink (fun s => (s.writeReg n v).reply (.writeReg n v) (s.writeStatus n v) [])

end Sys2Proof.Machine
end

