-- ==== Sys2Proof/Machine/LinkFrames.lean ====
section
/-! DEFINITION. TAKE_FLAGS and the frames that carry no command out (R153 to R158, R168). -/

namespace Sys2Proof.Machine

/-- TAKE_FLAGS (R168): the flag word is returned and exactly the flags it shows set are cleared. -/
def execTakeFlags (s : State) : Host.Outcome State Fault Refusal :=
  .next (s.onLink (fun s => ({ s with flags := 0 }).reply .takeFlags .ok (bytes2 s.flags)))

/-- UNKNOWN_COMMAND (R154): answered UNKNOWN with no data bytes, counted as a link error. -/
def execUnknownCommand (command : Byte) (s : State) : Host.Outcome State Fault Refusal :=
  .next (s.onLink (fun s => s.linkError.reply (.unknownCommand command) .unknown []))

/-- FRAME_ABORT (R155): CS_N rises before the check byte is complete. Nothing is executed, whatever bits were received; a link
error, and no status byte. -/
def execFrameAbort (_received : List Bool) (s : State) : Host.Outcome State Fault Refusal :=
  .next (s.onLink (fun s => { s.linkError with csLow := false, frame := [], answer := none }))

/-- The zero data bytes of a frame that fails its check: as many as its command byte names (R153, R154). -/
def zeroData (frame : List Byte) : List Byte :=
  match frame with
  | [] => []
  | command :: _ => List.replicate (frameData command) 0

/-- BAD_CHECK_BYTE (R153): answered CHECK, nothing executed, a link error. -/
def execBadCheckByte (frame : List Byte) (s : State) : Host.Outcome State Fault Refusal :=
  .next (s.onLink (fun s => s.linkError.reply (.badCheckByte frame) .check (zeroData frame)))

/-- CS_N_RISES_AFTER_RELEASE (R158): the rising ends no frame and counts nothing; the link opens frames again. While a taken
frame is open its rising ends that frame, and nothing else (R151). -/
def execCsNRisesAfterRelease (s : State) : Host.Outcome State Fault Refusal :=
  .next (if s.rst then s else { s with csIgnore := false, csLow := false, frame := [] })

/-! ## MISO (R151, R156, R158) -/

/-- MISO is driven: CS_N is low and the link is open (R151, R158). -/
def State.misoDriven (s : State) : Bool := s.csLow && s.linkOpen

/-- Byte n that MISO drives in the open frame: 0 until the check byte is complete, then the status byte and the returned
data, then 0 (R156). -/
def State.misoByte (s : State) (n : Nat) : Byte :=
  if n < s.frame.length then 0
  else match s.answer with
    | some a => a.bytes.getD (n - s.frame.length) 0
    | none => 0

/-- Bit n that MISO drives in the open frame: each byte goes most significant bit first (R151). -/
def State.misoBit (s : State) (n : Nat) : Bool := (s.misoByte (n / 8)).getMsbD (n % 8)

end Sys2Proof.Machine
end

