-- ==== Sys2Proof/Machine/OutputFramer.lean ====
section
/-! DEFINITION. The Output Framer: the beginning and the end of an item on the trace port (R79 to R82, R127 to R150). -/

namespace Sys2Proof.Machine

/-- A STATUS frame as the state stands (R142). -/
def State.statusFrame (s : State) : StatusFrame :=
  { device := s.devId, recState := s.recState, tick := s.tick, windowCount := s.window.length,
    storeFree := s.freeSlots, queueCount := s.queue.length,
    reg1 := selFirst s.regs.statusSel, value1 := s.regValueAt (selFirst s.regs.statusSel),
    reg2 := selSecond s.regs.statusSel, value2 := s.regValueAt (selSecond s.regs.statusSel) }

/-- The RECORD item of a record of an event (R132, R133). -/
def recordItem (first : Tick) (prev : Option Addr) (r : Record) : Item :=
  .record r (tickOffset r first) (addrForm prev r.addr)

/-- The item a choice begins, with its contents as they stand (R128, R131 to R134, R138, R139). -/
def State.itemOf (s : State) (c : Choice) : Option Item :=
  match c with
  | .notice => s.notices.head?.map Item.notice
  | .burstClose => s.burst.map (fun b => .burstClose b.number b.events)
  | .eventHeader => s.queue.head?.map (fun e => .eventHeader e.header)
  | .record => s.queue.head?.bind (fun e => e.records.head?.map (recordItem e.first s.prevAddr))
  | .burstOpen => some (.burstOpen s.devId s.burstNumber s.tick)
  | .status => some (.status s.statusFrame)

/-- What the beginning of an item changes besides the framer itself: a burst opens (R138), an event is in transmission
(R79), a record sets the previous address (R133). -/
def State.began (s : State) (item : Item) : State :=
  match item with
  | .burstOpen _ _ _ =>
    { s with burst := some { number := s.burstNumber, events := 0 }, burstNumber := s.burstNumber + 1 }
  | .eventHeader _ => { s with inTransmission := true }
  | .record r _ _ => { s with prevAddr := some r.addr }
  | .burstClose _ _ => s
  | .notice _ => s
  | .status _ => s

/-- An item begins: SENDING, the status timer back to 0 (R141), the restart condition ended (R149). -/
def State.beginItem (s : State) (item : Item) : State :=
  { (s.began item) with framer := .sending item, statusTimer := 0, restart := false }

/-- ITEM_BEGIN (R128): the first byte of the offered item moves. Nothing moves while nothing is offered. -/
def execItemBegin (s : State) : Host.Outcome State Fault Refusal :=
  .next (match s.framer with
    | .offering c =>
      match s.itemOf c with
      | some item => s.beginItem item
      | none => s
    | .idle => s
    | .sending _ => s)

/-- The open burst's event count goes up by one (R136). -/
def Burst.counted (b : Burst) : Burst := { b with events := b.events + 1 }

/-- The last byte of the event in transmission has moved: it leaves the queue and is counted, and the place goes to the
parking list (R81, R82, R136). -/
def State.eventLeaves (s : State) : State :=
  (({ s with
      queue := s.queue.tail, inTransmission := false, prevAddr := none,
      burst := s.burst.map Burst.counted }).count .eventsSent).placesFreed.drainTest

/-- The event at the head has no record left to send. -/
def State.headSent (s : State) : Bool := s.queue.head?.all (fun e => e.records.isEmpty)

/-- The head record of the head event leaves its list (R80). -/
def dropHeadRecord : List Event → List Event
  | [] => []
  | e :: rest => { e with records := e.records.tail } :: rest

/-- The record slot of the record just sent is freed (R80). -/
def State.freeRecord (s : State) : State := ({ s with queue := dropHeadRecord s.queue }).storeChanged

/-- What the end of an item does (R80, R81, R136, R139, R144). -/
def State.ended (s : State) (item : Item) : State :=
  match item with
  | .notice _ => { s with notices := s.notices.tail }
  | .burstClose _ _ => { s with burst := none }
  | .eventHeader _ => if s.headSent then s.eventLeaves else s
  | .record _ _ _ => if s.freeRecord.headSent then s.freeRecord.eventLeaves else s.freeRecord
  | .burstOpen _ _ _ => s
  | .status _ => s

/-- ITEM_END (R128): the check byte moves, the item ends, and the framer makes its next choice. -/
def execItemEnd (s : State) : Host.Outcome State Fault Refusal :=
  .next (match s.framer with
    | .sending item => (({ s with framer := .idle }).ended item).offer
    | .idle => s
    | .offering _ => s)

/-- TVALID is high while an item is offered or being sent (R128). -/
def State.tvalid (s : State) : Bool :=
  match s.framer with
  | .idle => false
  | .offering _ => true
  | .sending _ => true

/-- The byte TDATA shows while the framer offers: the type byte of its choice (R127). -/
def State.offeredByte (s : State) : Option Byte :=
  match s.framer with
  | .offering c => (s.itemOf c).bind (fun i => i.body.head?)
  | .idle => none
  | .sending _ => none

/-- The bytes of the item that is moving (R127, R130). -/
def State.movingBytes (s : State) : List Byte :=
  match s.framer with
  | .sending item => item.bytes
  | .idle => []
  | .offering _ => []

end Sys2Proof.Machine
end

