-- ==== Sys2Proof/Machine/Path.lean ====
section
/-! DEFINITION. The Path Unit, the window's side of a taking, the Match Block, and MRST (R5 to R15, R23, R89 to R126). -/

namespace Sys2Proof.Machine

/-! ## Requests (R106, R112) -/

/-- The lowest free entry place (log 13). -/
def State.freePlace (s : State) : Nat :=
  ((List.range Config.windowPlaces).find? (fun p => s.window.all (fun e => e.place != p))).getD 0

/-- The entry a request taken in RUN creates (R5, R7, R10, R11), forward-marked (R19). -/
def State.newEntry (s : State) (r : Request) : Entry :=
  { place := s.freePlace, seq := s.seq, reqTick := s.tick, kind := r.header.kind, id := r.header.id,
    addr := r.header.addr, len := r.header.len,
    partialWrite := match r.header.kind with
      | .read => false
      | .write => isPartial r.beats,
    matchFlags := outcomes s.regs.units r.header,
    response := none,
    data := match r.header.kind with
      | .read => noData
      | .write => dataPart (captureDepth s.regs.capture) (r.beats.map maskedBeat),
    marks := s.collectors s.tick }

/-- One is added to the missed count of a slot's event, or more (R73). -/
def State.addMissed (s : State) (n : Nat) (k : Slot) : State :=
  match s.slot k with
  | none => s
  | some l => s.setSlot k (some { l with event := { l.event with missed := satAdd l.event.missed n } })

/-- The request gets an OTT item (R112). -/
def State.openItem (s : State) (r : Request) (link : Link) : State :=
  { s with ott := s.ott ++ [{ id := r.header.id, expected := expectedBeats r.header, link := link }] }

/-- The window creates the entry and its link (R7). -/
def State.createEntry (s : State) (r : Request) : State :=
  let e := s.newEntry r
  { s.openItem r (.entry e.seq e.place) with window := s.window ++ [e], seq := s.seq + 1 }

/-- The window drops the request (R13): link none, a seq number used, WINDOW_DROPS, the flag, the missed counts. -/
def State.dropRequest (s : State) (r : Request) : State :=
  let dropped := (({ s.openItem r .none with seq := s.seq + 1 }).count .windowDrops).raise .windowDrop
  (s.collectors s.tick).foldl (fun t k => t.addMissed 1 k) dropped

/-- The Match Block fires after the entry's creation or the drop (R96). -/
def State.fireMatch (s : State) (r : Request) : State :=
  if matchFires s.regs r.header then s.arrive s.matchArrival else s

/-- The taking in RUN: seq, entry or drop, evaluation (R112). Under STALL a full window holds the header back, so only
DROP meets a full window here (R12, log 21). -/
def State.recordRequest (s : State) (r : Request) : State :=
  (if s.window.length < Config.windowPlaces then s.createEntry r else s.dropRequest r).fireMatch r

/-- The taking of a request (R112): OTT item, the window and the Match Block in RUN, then the forward queue. -/
def State.takeRequest (s : State) (r : Request) : State :=
  let recorded := if s.recState = .run then s.recordRequest r else s.openItem r .none
  { recorded with reqQueue := recorded.reqQueue ++ [r] }

/-- One UQ transfer (R106): a header while no hold applies and nothing is in assembly, a beat while a WRITE is. -/
def State.acceptRequest (s : State) (t : ReqTransfer) : State :=
  match s.uqAssembly, t with
  | none, .header h =>
    if s.held then s
    else match h.kind with
      | .read => s.takeRequest ⟨h, []⟩
      | .write => { s with uqAssembly := some ⟨h, []⟩ }
  | some r, .beat b =>
    if s.resetHold then s
    else if r.header.len ≤ r.beats.length + 1 then
      ({ s with uqAssembly := none }).takeRequest ⟨r.header, r.beats ++ [b]⟩
    else { s with uqAssembly := some ⟨r.header, r.beats ++ [b]⟩ }
  | none, .beat _ => s
  | some _, .header _ => s

/-- REQUEST_TAKEN (R106, R112). Transfers that are not accepted wait at the port (R116, log 7). -/
def execRequestTaken (transfers : List ReqTransfer) (s : State) : Host.Outcome State Fault Refusal :=
  .next (transfers.foldl State.acceptRequest s)

/-- REQUEST_PASSED (R109). -/
def execRequestPassed (s : State) : Host.Outcome State Fault Refusal := .next { s with reqQueue := s.reqQueue.tail }

/-! ## Responses (R107, R113 to R115) -/

/-- The latency of an entry filled now (R14): the ticks since its request tick, held at 255. While the window has still
to take the tick's expiry, the entry that expires at this tick carries LATENCY (R15, log 5). -/
def State.fillLatency (s : State) (e : Entry) : Byte :=
  let ticks := (s.tick - e.reqTick).toNat
  BitVec.ofNat 8 (min 255 (if s.owed.horizon then min s.regs.latency.toNat ticks else ticks))

/-- An entry filled by its response (R14). -/
def State.filled (s : State) (e : Entry) (ts : List RespTransfer) (mismatch : Bool) : Entry :=
  { e with
    response := some (.answered (respStatus ts) (s.fillLatency e) mismatch),
    data := match e.kind with
      | .read => readData (captureDepth s.regs.capture) (readBeats ts)
      | .write => e.data }

/-- The response is handed to the window for the linked entry (R14). -/
def State.fill (s : State) (l : Link) (ts : List RespTransfer) (mismatch : Bool) : State :=
  { s with window := s.window.map (fun e => if e.namedBy l then s.filled e ts mismatch else e) }

/-- What the removed item's link makes of the response (R115). -/
def State.settleLink (s : State) (item : OttItem) (ts : List RespTransfer) : State :=
  match item.link with
  | .entry seq place => s.fill (.entry seq place) ts (decide ((readBeats ts).length ≠ item.expected))
  | .expired => s.count .lateResponses
  | .none => s

/-- An orphan response (R114). -/
def State.orphan (s : State) (ts : List RespTransfer) : State :=
  ((s.count .orphans).raise .orphan).notify (.orphan (respId ts) (respStatus ts) s.tick)

/-- The head item of an ID is the oldest item of that ID (R111). -/
def headItem (ott : List OttItem) (id : TxId) : Option OttItem := ott.find? (fun i => i.id == id)

/-- The OTT without the head item of an ID (R113). -/
def withoutHead (ott : List OttItem) (id : TxId) : List OttItem := ott.eraseP (fun i => i.id == id)

/-- The pairing of a response (R113): the head item of its ID is removed, or the response is an orphan. -/
def State.pair (s : State) (ts : List RespTransfer) : State :=
  match headItem s.ott (respId ts) with
  | some item => ({ s with ott := withoutHead s.ott (respId ts) }).settleLink item ts
  | none => s.orphan ts

/-- An ERROR response in RUN with FAULT_CFG enabled fires a FAULT trigger (R99). -/
def State.fireFault (s : State) (ts : List RespTransfer) : State :=
  if s.recState = .run ∧ respStatus ts = .error ∧ cfgEnable s.regs.faultCfg then s.arrive s.faultArrival else s

/-- The taking of a response (R113): pairing, fault trigger, then the forward queue. -/
def State.takeResponse (s : State) (ts : List RespTransfer) : State :=
  let paired := (s.pair ts).fireFault ts
  { paired with respQueue := paired.respQueue ++ [ts] }

/-- The first transfer of a response is accepted while the response forward queue has a free place (R107). -/
def State.responseRoom (s : State) : Bool := !s.mpAssembly.isEmpty || s.respQueue.length < Config.forwardPlaces

/-- One MP transfer (R107): the response is taken at its transfer marked last, or at its sixteenth. -/
def State.acceptResponse (s : State) (t : RespTransfer) : State :=
  if s.resetHold || !s.responseRoom then s
  else if t.last || Config.responseTransfers ≤ s.mpAssembly.length + 1 then
    ({ s with mpAssembly := [] }).takeResponse (s.mpAssembly ++ [t])
  else { s with mpAssembly := s.mpAssembly ++ [t] }

/-- RESPONSE_TAKEN (R107, R113). Transfers that are not accepted wait at the port (R110, log 7). -/
def execResponseTaken (transfers : List RespTransfer) (s : State) : Host.Outcome State Fault Refusal :=
  .next (transfers.foldl State.acceptResponse s)

/-- RESPONSE_PASSED (R110). -/
def execResponsePassed (s : State) : Host.Outcome State Fault Refusal := .next { s with respQueue := s.respQueue.tail }

/-! ## The memory-path reset (R23, R121, R122) -/

/-- MRST_ASSERT (R121, R23). Only the first assertion acts. -/
def execMrstAssert (s : State) : Host.Outcome State Fault Refusal :=
  .next (if s.mrst then s else
    { s with
      mrst := true, uqAssembly := none, mpAssembly := [], reqQueue := [], respQueue := [], ott := [],
      window := s.window.map Entry.abandon })

/-- MRST_RELEASE (R122). -/
def execMrstRelease (s : State) : Host.Outcome State Fault Refusal := .next { s with mrst := false }

end Sys2Proof.Machine
end

