-- ==== Sys2Proof/Machine/Registers.lean ====
section
/-! DEFINITION. NOP and register access over the control link (R159 to R161, R170, and the settings' own rules). -/

namespace Sys2Proof.Machine

/-- NOP (R159). -/
def execNop (s : State) : Host.Outcome State Fault Refusal := .next (s.onLink (fun s => s.reply .nop .ok []))

/-- A read of CUR_TICK_HI: the upper 8 bits are returned and the lower 16 captured (R161). -/
def State.readTickHi (s : State) : State :=
  ({ s with capture := some (s.tick.extractLsb' 0 16) }).reply .curTickHiRead .ok
    (bytes2 (s.regValue .curTickHi))

/-- A read of CUR_TICK_LO: the captured value, which ends the capture, or the live value (R161). -/
def State.readTickLo (s : State) : State :=
  match s.capture with
  | some v => ({ s with capture := none }).reply .curTickLoRead .ok (bytes2 v)
  | none => s.reply .curTickLoRead .ok (bytes2 (s.regValue .curTickLo))

/-- A READ_REG by number (R159). -/
def State.readCommand (s : State) (n : Byte) : State :=
  match regOfNum n with
  | none => s.reply (.readReg n) .badArg [0, 0]
  | some .curTickHi => s.readTickHi
  | some .curTickLo => s.readTickLo
  | some r => s.reply (.readReg n) .ok (bytes2 (s.regValue r))

/-- READ_REG (R159). -/
def execReadReg (reg : Byte) (s : State) : Host.Outcome State Fault Refusal :=
  .next (s.onLink (fun s => s.readCommand reg))

/-- CUR_TICK_HI_READ (R161). -/
def execCurTickHiRead (s : State) : Host.Outcome State Fault Refusal := .next (s.onLink State.readTickHi)

/-- CUR_TICK_LO_READ (R161). -/
def execCurTickLoRead (s : State) : Host.Outcome State Fault Refusal := .next (s.onLink State.readTickLo)

/-- WRITE_REG (R160). -/
def execWriteReg (reg : Byte) (value : Word) (s : State) : Host.Outcome State Fault Refusal :=
  .next (s.writeCommand reg value)

/-- LATENCY_WRITE (R3). -/
def execLatencyWrite (value : Word) (s : State) : Host.Outcome State Fault Refusal :=
  .next (s.writeCommand Config.latencyNum value)

/-- MAX_RECORDS_WRITE (R76). -/
def execMaxRecordsWrite (value : Word) (s : State) : Host.Outcome State Fault Refusal :=
  .next (s.writeCommand Config.maxRecordsNum value)

/-- THROTTLE_MARK_WRITE (R118); the THROTTLE reason is computed from the mark. -/
def execThrottleMarkWrite (value : Word) (s : State) : Host.Outcome State Fault Refusal :=
  .next (s.writeCommand Config.throttleMarkNum value)

/-- BURST_SIZE_WRITE (R140). -/
def execBurstSizeWrite (value : Word) (s : State) : Host.Outcome State Fault Refusal :=
  .next (s.writeCommand Config.burstSizeNum value)

/-- STATUS_PERIOD_WRITE (R143). -/
def execStatusPeriodWrite (value : Word) (s : State) : Host.Outcome State Fault Refusal :=
  .next (s.writeCommand Config.statusPeriodNum value)

/-- FLAG_MASK_WRITE (R170); ATTN_N is computed from the mask (R171). -/
def execFlagMaskWrite (value : Word) (s : State) : Host.Outcome State Fault Refusal :=
  .next (s.writeCommand Config.flagMaskNum value)

end Sys2Proof.Machine
end

