-- ==== Sys2Proof/Machine/Reset.lean ====
section
/-! DEFINITION. The device reset RST_N in every block (R24, R46, R49, R66, R88, R104, R123, R149, R158, R184). -/

namespace Sys2Proof.Machine

/-- Every block in its reset state; a frame in progress is lost (R158). RST_N does not reach the path: the forward queues and
the items in assembly stay (R123), nor does it reach MRST or the level of CS_N; the commands that wait are not the
part's. -/
def State.resetBlocks (s : State) : State :=
  { State.reset with
    rst := true, mrst := s.mrst, csLow := s.csLow,
    reqQueue := s.reqQueue, respQueue := s.respQueue, uqAssembly := s.uqAssembly, mpAssembly := s.mpAssembly,
    pending := s.pending }

/-- RST_N_ASSERT (R184). -/
def execRstNAssert (s : State) : Host.Outcome State Fault Refusal := .next s.resetBlocks

/-- RST_N_RELEASE (R46): the device number is sampled, the line levels are set without edges (R45), and CS_N low makes the
link wait for it to rise (R158). -/
def execRstNRelease (devid : BitVec 2) (levelA levelB csLow : Bool) (s : State) : Host.Outcome State Fault Refusal :=
  .next (if s.rst then
    { s with rst := false, devId := devid, lineA := levelA, lineB := levelB, csIgnore := csLow, csLow := csLow }
  else s)

end Sys2Proof.Machine
end

