-- ==== Sys2Proof/Machine/TimeBase.lean ====
section
/-! DEFINITION. The Time Base and the blocks that act at a tick (R1, R2, R16 to R18, R39, R40, R51, R53, R119, R141). -/

namespace Sys2Proof.Machine

/-- One REFCLK period counted (R1). The period that completes the count raises the tick, which is the TICK command, so
the count waits one short of TICK_DIV; it is held at zero under RST_N (log 12). -/
def State.refclkPeriod (s : State) : State :=
  if s.rst then s
  else if s.periodCount + 1 < s.divInForce.toNat then { s with periodCount := s.periodCount + 1 }
  else s

/-! ## The Path Unit's count (R119) -/

/-- The Path Unit takes its tick (R119): the count goes up by one while THROTTLE applies, else returns to 0. Where it reaches
THROTTLE_LIMIT the throttle times out in the same act: counted, flagged, suspended (R182), the count back to 0. -/
def State.countThrottle (s : State) : State :=
  if s.throttleHold then
    if s.regs.throttleLimit ≤ satInc s.throttleCount then
      (({ s with suspended := true, throttleCount := 0, owed := { s.owed with count := none } }).count
        .throttleTimeouts).raise .throttle
    else { s with throttleCount := satInc s.throttleCount, owed := { s.owed with count := none } }
  else { s with throttleCount := 0, owed := { s.owed with count := none } }

/-- The last tick's count has not been taken, and taken now it would time out (R119). -/
def State.timeoutDue (s : State) : Bool :=
  s.owed.count.isSome && s.throttleHold && s.regs.throttleLimit ≤ satInc s.throttleCount

/-! ## The horizon (R16 to R18) -/

/-- The event of a slot after an offer, and whether the offer found the pool full (R69, R70). -/
def EventBuild.take (ev : EventBuild) (r : Record) (maxRecords free : Nat) : EventBuild :=
  if ev.records.length < maxRecords then
    if 1 ≤ free then { ev with records := ev.records ++ [r] }
    else { ev with truncated := satInc ev.truncated, storeFullReason := true }
  else { ev with truncated := satInc ev.truncated, limitReason := true }

/-- A record offer to a slot's event: stored, or truncated and counted (R69, R70). -/
def State.offerRecord (s : State) (r : Record) (k : Slot) : State :=
  match s.slot k with
  | none => s
  | some l =>
    let max := s.regs.maxRecords.toNat
    let s' := s.setSlot k (some { l with event := l.event.take r max s.freeSlots })
    if l.event.records.length < max then
      if 1 ≤ s.freeSlots then s' else (s'.count .truncatedRecords).raise .storeFull
    else s'.count .truncatedRecords

/-- The OTT item that links to an entry is detached: its link becomes EXPIRED (R16). -/
def State.detach (s : State) (e : Entry) : State :=
  { s with ott := s.ott.map (fun i => if e.namedBy i.link then { i with link := .expired } else i) }

/-- One entry leaves at expiry: an offer for each mark in slot order, then the detachment of an OPEN entry (R16, R17). -/
def State.expireEntry (s : State) (e : Entry) : State :=
  let offered := (allSlots.filter (fun k => e.marks.contains k)).foldl (fun t k => t.offerRecord e.copy k) s
  if e.isOpen then offered.detach e else offered

/-- Every entry at or before the horizon leaves the window, oldest first (R16). -/
def State.expire (s : State) (horizon : Tick) : State :=
  (s.window.filter (fun e => atOrBefore e.reqTick horizon)).foldl State.expireEntry
    { s with window := s.window.filter (fun e => !atOrBefore e.reqTick horizon) }

/-- An entry ends its collection (R39, R40): HELD with its deadline when provisional and unconfirmed (R51), else handed
on. -/
def State.endCollection (s : State) (k : Slot) : State :=
  match s.slot k with
  | none => s
  | some l =>
    let closed := { l with closeTick := some s.tick }
    if l.provisional && !l.confirmed then
      s.setSlot k (some { closed with state := .held (s.tick + s.regs.decision.setWidth 24) })
    else (s.setSlot k (some closed)).handOn k

/-- A slot meets the horizon report (R39). -/
def State.reportSlot (horizon : Tick) (s : State) (k : Slot) : State :=
  match s.slot k with
  | none => s
  | some l => if l.state = .collecting ∧ atOrBefore l.last horizon then s.endCollection k else s

/-- The horizon report, in slot order (R18, R39). -/
def State.report (s : State) (horizon : Tick) : State := allSlots.foldl (State.reportSlot horizon) s

/-- The Path Unit's count when it comes after a step of the same tick (log 3). -/
def State.countIf (s : State) (order : CountOrder) : State :=
  if s.owed.count = some order then s.countThrottle else s

/-- The window's action at a tick: the horizon stands at R3's value, the entries it reached leave with their offers, the
horizon is reported, and Run Control tests DRAIN (R16, R18, R176, log 4). -/
def State.advanceHorizon (s : State) : State :=
  let h := horizonOf s.tick s.regs.latency
  ((((({ s with horizon := h, owed := { s.owed with horizon := false } }).expire h).report h).drainTest).countIf
    .afterExpiry)

/-! ## Decision deadlines (R53, R54) -/

/-- A slot meets the tick: a HELD entry whose deadline equals the tick number is discarded (R53). -/
def State.deadlineSlot (s : State) (k : Slot) : State :=
  match s.slot k with
  | none => s
  | some l => if l.state = .held s.tick then s.discardReported k .timeout else s

/-- The Trigger Table's action at a tick, in slot order (R53, R54). -/
def State.takeDeadlines (s : State) : State :=
  (allSlots.foldl State.deadlineSlot { s with owed := { s.owed with deadlines := false } }).countIf .afterDeadlines

/-! ## The tick -/

/-- What the last tick still owes is taken before the next tick (log 2). -/
def State.settleTick (s : State) : State :=
  let s := if s.owed.horizon then s.advanceHorizon else s
  let s := if s.owed.deadlines then s.takeDeadlines else s
  let s := if s.owed.count.isSome then s.countThrottle else s
  if s.owed.choice then ({ s with owed := { s.owed with choice := false } }).rechoose else s

/-- The tick number, the status timer and the period count at a tick (R1, R2, R141). -/
def State.advanceTick (s : State) : State :=
  { s with
    tick := s.tick + 1, periodCount := 0, divInForce := s.regs.tickDiv, statusTimer := satInc s.statusTimer,
    owed := { count := none, horizon := true, deadlines := true, choice := true } }

/-- The Path Unit's count of the new tick, at once or owed (R119, log 3). -/
def State.startCount (s : State) (order : CountOrder) : State :=
  match order with
  | .atOnce => s.countThrottle
  | .afterExpiry => { s with owed := { s.owed with count := some .afterExpiry } }
  | .afterDeadlines => { s with owed := { s.owed with count := some .afterDeadlines } }

/-! ## The commands -/

/-- TICK (R1, R2, R119, R141). No tick is raised while RST_N is asserted. -/
def execTick (order : CountOrder) (s : State) : Host.Outcome State Fault Refusal :=
  .next (if s.rst then s else (s.settleTick.advanceTick).startCount order)

/-- HORIZON_ADVANCE (R16, R18). -/
def execHorizonAdvance (s : State) : Host.Outcome State Fault Refusal := .next (if s.rst then s else s.advanceHorizon)

/-- DECISION_DEADLINE (R53, R54). -/
def execDecisionDeadline (s : State) : Host.Outcome State Fault Refusal := .next (if s.rst then s else s.takeDeadlines)

/-- THROTTLE_TIMEOUT (R119, R182): the Path Unit takes the tick's count, which reaches the limit (log 6). Where no timeout is
due the command changes nothing (log 7). -/
def execThrottleTimeout (s : State) : Host.Outcome State Fault Refusal :=
  .next (if s.timeoutDue then s.countThrottle else s)

/-- STATUS_FRAME_DUE (R141): the framer makes its choice anew, which a due frame is part of (log 20). -/
def execStatusFrameDue (s : State) : Host.Outcome State Fault Refusal :=
  .next (({ s with owed := { s.owed with choice := false } }).rechoose)

end Sys2Proof.Machine
end

