-- ==== Sys2Proof/Machine/RunControl.lean ====
section
/-! DEFINITION. Run Control and the FLUSH command (R22, R48, R85, R148, R164 to R166, R172 to R183). -/

namespace Sys2Proof.Machine

/-! ## START and STOP (R173, R174) -/

/-- START in OFF (R173): the sequence counter at 0, a suspension ended, and the throttle tick count starting from 0
(R183). -/
def State.startRun (s : State) : State := { s with recState := .run, seq := 0, suspended := false, throttleCount := 0 }

/-- START (R164, R173). -/
def execStart (s : State) : Host.Outcome State Fault Refusal :=
  .next (s.onLink (fun s => if s.recState = .off then s.startRun.reply .start .ok [] else s.reply .start .busy []))

/-- STOP (R164, R174). -/
def execStop (s : State) : Host.Outcome State Fault Refusal :=
  .next (s.onLink (fun s =>
    (if s.recState = .run then ({ s with recState := .drain }).drainTest else s).reply .stop .ok []))

/-! ## The five selections (R179) -/

/-- The number of window entries that carry a slot's mark. -/
def State.markedCount (s : State) (k : Slot) : Nat := (s.window.filter (fun e => e.marks.contains k)).length

/-- A slot's event is charged for the entries that FLUSH WINDOW takes from it, while COLLECTING (R22, R73). -/
def chargeFlush (marked : Slot → Nat) (s : State) (k : Slot) : State :=
  match s.slot k with
  | none => s
  | some l => if l.state = .collecting then s.addMissed (marked k) k else s

/-- An OTT item linked to an entry has its link set to none (R22). -/
def OttItem.unlink (i : OttItem) : OttItem :=
  match i.link with
  | .entry _ _ => { i with link := .none }
  | .none => i
  | .expired => i

/-- FLUSH WINDOW (R22). -/
def State.flushWindow (s : State) : State :=
  allSlots.foldl (chargeFlush s.markedCount) { s with window := [], ott := s.ott.map OttItem.unlink }

/-- A slot discarded by FLUSH TRIGGERS (R48, R87). -/
def State.flushSlot (s : State) (k : Slot) : State :=
  match s.slot k with
  | none => s
  | some l => ((if l.state = .collecting then s.unmarkAll k else s).setSlot k none)

/-- FLUSH TRIGGERS (R48, R87). -/
def State.flushTriggers (s : State) : State :=
  ({ allSlots.foldl State.flushSlot s with parking := [] }).storeChanged

/-- FLUSH EVENTS (R85, R148): every event but the one in transmission, then the freed places. -/
def State.flushEvents (s : State) : State :=
  (({ s with queue := if s.inTransmission then s.queue.take 1 else [] }).storeChanged.placesFreed).rechoose

/-- A notice is in transmission: the framer is sending it (R144). -/
def State.sendingNotice (s : State) : Bool :=
  match s.framer with
  | .sending (.notice _) => true
  | _ => false

/-- FLUSH NOTICES (R148): every notice but the one in transmission. -/
def State.flushNotices (s : State) : State :=
  ({ s with notices := if s.sendingNotice then s.notices.take 1 else [] }).rechoose

/-- FLUSH COUNTERS (R166). -/
def State.flushCounters (s : State) : State := { s with counters := Counters.zero }

/-! ## FLUSH (R165, R179 to R181) -/

/-- The selections of a byte carried out in the order of R180. -/
def State.flushSelected (s : State) (selection : Byte) : State :=
  let s := if selection.getLsbD 0 then s.flushWindow else s
  let s := if selection.getLsbD 1 then s.flushTriggers else s
  let s := if selection.getLsbD 2 then s.flushEvents else s
  let s := if selection.getLsbD 3 then s.flushNotices else s
  if selection.getLsbD 4 then s.flushCounters else s

/-- FLUSH (R165, R180, R181): the test for the end of DRAIN comes once, after the selections. -/
def execFlush (selection : Byte) (s : State) : Host.Outcome State Fault Refusal :=
  .next (s.onLink (fun s =>
    if flushArgOk selection then ((s.flushSelected selection).drainTest).reply (.flush selection) .ok []
    else s.reply (.flush selection) .badArg []))

/-- FLUSH_WINDOW (R22, R181). -/
def execFlushWindow (s : State) : Host.Outcome State Fault Refusal :=
  .next (s.onLink (fun s => (s.flushWindow.drainTest).reply .flushWindow .ok []))

/-- FLUSH_TRIGGERS (R48, R181). -/
def execFlushTriggers (s : State) : Host.Outcome State Fault Refusal :=
  .next (s.onLink (fun s => (s.flushTriggers.drainTest).reply .flushTriggers .ok []))

/-- FLUSH_EVENTS (R85, R181). -/
def execFlushEvents (s : State) : Host.Outcome State Fault Refusal :=
  .next (s.onLink (fun s => (s.flushEvents.drainTest).reply .flushEvents .ok []))

/-- FLUSH_NOTICES (R148). -/
def execFlushNotices (s : State) : Host.Outcome State Fault Refusal :=
  .next (s.onLink (fun s => (s.flushNotices.drainTest).reply .flushNotices .ok []))

/-- FLUSH_COUNTERS (R166). -/
def execFlushCounters (s : State) : Host.Outcome State Fault Refusal :=
  .next (s.onLink (fun s => (s.flushCounters.drainTest).reply .flushCounters .ok []))

end Sys2Proof.Machine
end

