-- ==== Sys2Proof/Machine/Triggers.lean ====
section
/-! DEFINITION. The trigger lines and the trigger and decision commands (R30, R44, R45, R47, R55 to R61, R162, R163). -/

namespace Sys2Proof.Machine

/-! ## Trigger lines (R45) -/

/-- The last sampled level of a line. -/
def State.lineLevel (s : State) (line : TrigLine) : Bool :=
  match line with
  | .trgA => s.lineA
  | .trgB => s.lineB

/-- A line's configuration word (R44). -/
def State.lineCfg (s : State) (line : TrigLine) : Word :=
  match line with
  | .trgA => s.regs.lineACfg
  | .trgB => s.regs.lineBCfg

/-- A line sampled at a level. -/
def State.sampled (s : State) (line : TrigLine) (level : Bool) : State :=
  match line with
  | .trgA => { s with lineA := level }
  | .trgB => { s with lineB := level }

/-- LINE_EDGE (R45): the line's next sample. A high sample after a low one, while the line is enabled, is an arrival. The
lines are not sampled while RST_N is asserted. -/
def execLineEdge (line : TrigLine) (sample : Bool) (s : State) : Host.Outcome State Fault Refusal :=
  .next (if s.rst then s
    else if sample && !s.lineLevel line && cfgEnable (s.lineCfg line) then
      (s.sampled line sample).arrive (s.lineArrival line)
    else s.sampled line sample)

/-! ## TRIGGER (R30, R162) -/

/-- The status a TRIGGER's fate is answered with (R35, R37, R162). -/
def Fate.status : Fate → Status
  | .refused r => r.status
  | .admitted => .ok
  | .merged => .ok
  | .ignored => .ok

/-- TRIGGER (R162). -/
def execTrigger (tag : Tag) (control : Byte) (s : State) : Host.Outcome State Fault Refusal :=
  .next (s.onLink (fun s =>
    if triggerArgsOk tag control then
      (s.arrive (s.commandArrival tag control)).reply (.trigger tag control)
        (s.fate (s.commandArrival tag control)).status []
    else s.reply (.trigger tag control) .badArg []))

/-! ## CONFIRM (R55 to R57) -/

/-- The status of a CONFIRM: the first row of R55 that applies. -/
def State.confirmStatus (s : State) (tag : Tag) : Status :=
  match (s.findTag tag).bind s.slot with
  | none => .noTag
  | some l => if l.provisional then .ok else .notProvisional

/-- The effect of a CONFIRM on the entry of a slot (R56, R57): a COLLECTING entry stays so, a HELD one is handed on. -/
def State.confirmSlot (s : State) (k : Slot) : State :=
  match s.slot k with
  | none => s
  | some l =>
    if l.provisional && !l.confirmed then
      let confirmed := s.setSlot k (some { l with confirmed := true })
      match l.state with
      | .collecting => confirmed
      | .held _ => (confirmed.handOn k).drainTest
      | .parked => s
    else s

/-- CONFIRM (R55, R163). -/
def execConfirm (tag : Tag) (s : State) : Host.Outcome State Fault Refusal :=
  .next (s.onLink (fun s =>
    (match s.findTag tag with
     | none => s
     | some k => s.confirmSlot k).reply (.confirm tag) (s.confirmStatus tag) []))

/-! ## CANCEL (R59, R60) -/

/-- The status of a CANCEL (R59). -/
def State.cancelStatus (s : State) (tag : Tag) : Status :=
  match (s.findTag tag).bind s.slot with
  | none => .noTag
  | some l =>
    match l.state with
    | .parked => .tooLate
    | .collecting => .ok
    | .held _ => .ok

/-- CANCEL (R59, R60, R163). -/
def execCancel (tag : Tag) (s : State) : Host.Outcome State Fault Refusal :=
  .next (s.onLink (fun s =>
    (match s.findTag tag with
     | none => s
     | some k => if s.cancelStatus tag = Status.ok then s.discardReported k .cancel else s).reply (.cancel tag)
      (s.cancelStatus tag) []))

/-! ## QUERY_TAG (R47) -/

/-- The two bytes QUERY_TAG returns: the state and the record count, FREE and 0 when no live entry holds the tag. -/
def State.queryData (s : State) (tag : Tag) : List Byte :=
  match (s.findTag tag).bind s.slot with
  | none => [0, 0]
  | some l => [l.state.code, BitVec.ofNat 8 l.event.records.length]

/-- QUERY_TAG (R47, R163). -/
def execQueryTag (tag : Tag) (s : State) : Host.Outcome State Fault Refusal :=
  .next (s.onLink (fun s => s.reply (.queryTag tag) .ok (s.queryData tag)))

end Sys2Proof.Machine
end

