-- ==== Sys2Proof/Machine/Dispatch.lean ====
section
/-! DEFINITION. exec: the meaning of each command, one arm per constructor of Instr. -/

namespace Sys2Proof.Machine

def exec (i : Instr) (s : State) : Host.Outcome State Fault Refusal :=
  match i with
  -- ticks
  | .tick order => Sys2Proof.Machine.execTick order s
  | .horizonAdvance => Sys2Proof.Machine.execHorizonAdvance s
  | .decisionDeadline => Sys2Proof.Machine.execDecisionDeadline s
  | .throttleTimeout => Sys2Proof.Machine.execThrottleTimeout s
  | .statusFrameDue => Sys2Proof.Machine.execStatusFrameDue s
  -- memory path
  | .requestTaken transfers => Sys2Proof.Machine.execRequestTaken transfers s
  | .requestPassed => Sys2Proof.Machine.execRequestPassed s
  | .responseTaken transfers => Sys2Proof.Machine.execResponseTaken transfers s
  | .responsePassed => Sys2Proof.Machine.execResponsePassed s
  | .mrstAssert => Sys2Proof.Machine.execMrstAssert s
  | .mrstRelease => Sys2Proof.Machine.execMrstRelease s
  -- device reset
  | .rstNAssert => Sys2Proof.Machine.execRstNAssert s
  | .rstNRelease devid levelA levelB csLow => Sys2Proof.Machine.execRstNRelease devid levelA levelB csLow s
  -- trigger lines
  | .lineEdge line sample => Sys2Proof.Machine.execLineEdge line sample s
  -- register access
  | .nop => Sys2Proof.Machine.execNop s
  | .readReg reg => Sys2Proof.Machine.execReadReg reg s
  | .curTickHiRead => Sys2Proof.Machine.execCurTickHiRead s
  | .curTickLoRead => Sys2Proof.Machine.execCurTickLoRead s
  | .writeReg reg value => Sys2Proof.Machine.execWriteReg reg value s
  | .latencyWrite value => Sys2Proof.Machine.execLatencyWrite value s
  | .maxRecordsWrite value => Sys2Proof.Machine.execMaxRecordsWrite value s
  | .throttleMarkWrite value => Sys2Proof.Machine.execThrottleMarkWrite value s
  | .burstSizeWrite value => Sys2Proof.Machine.execBurstSizeWrite value s
  | .statusPeriodWrite value => Sys2Proof.Machine.execStatusPeriodWrite value s
  | .flagMaskWrite value => Sys2Proof.Machine.execFlagMaskWrite value s
  -- trigger and decision commands
  | .trigger tag control => Sys2Proof.Machine.execTrigger tag control s
  | .confirm tag => Sys2Proof.Machine.execConfirm tag s
  | .cancel tag => Sys2Proof.Machine.execCancel tag s
  | .queryTag tag => Sys2Proof.Machine.execQueryTag tag s
  -- run control and flushing
  | .start => Sys2Proof.Machine.execStart s
  | .stop => Sys2Proof.Machine.execStop s
  | .flushWindow => Sys2Proof.Machine.execFlushWindow s
  | .flushTriggers => Sys2Proof.Machine.execFlushTriggers s
  | .flushEvents => Sys2Proof.Machine.execFlushEvents s
  | .flushNotices => Sys2Proof.Machine.execFlushNotices s
  | .flushCounters => Sys2Proof.Machine.execFlushCounters s
  -- link frames
  | .takeFlags => Sys2Proof.Machine.execTakeFlags s
  | .unknownCommand command => Sys2Proof.Machine.execUnknownCommand command s
  | .frameAbort received => Sys2Proof.Machine.execFrameAbort received s
  -- trace port
  | .itemBegin => Sys2Proof.Machine.execItemBegin s
  | .itemEnd => Sys2Proof.Machine.execItemEnd s
  -- link frames and FLUSH with any selection
  | .badCheckByte frame => Sys2Proof.Machine.execBadCheckByte frame s
  | .flush selection => Sys2Proof.Machine.execFlush selection s
  | .csNRisesAfterRelease => Sys2Proof.Machine.execCsNRisesAfterRelease s

end Sys2Proof.Machine
end

