-- ==== Sys2Proof/Safety.lean ====
section
/-! DEFINITION. What counts as a sound state of the part, in the data book's terms: settings in range, queues within
their places, an empty part when OFF, parked entries only behind a full queue, distinct tags, an offered item that is
there, and links that name OPEN entries. Each is kept by every step (the obligations state it). -/

namespace Sys2Proof.Machine

/-- Every setting register holds a value its range allows, unused bits 0 (R160, R186). -/
def SettingsLegal (s : State) : Prop := ∀ r, regReadOnly r = false → regLegal r (s.regValue r) = true

/-- No bit of the flag word is set where no flag stands (R167, 11.2). -/
def FlagsLegal (s : State) : Prop := s.flags &&& 0xFE00 = 0

/-- The window, the OTT, the Event Queue and the Notice Queue are within their places (R4, R111, R77, R144), and the
forward queues within theirs with room for what is in assembly (R109, R110, R117). -/
def QueuesFit (s : State) : Prop :=
  s.window.length ≤ Config.windowPlaces ∧ s.ott.length ≤ Config.ottItems ∧
  s.queue.length ≤ Config.queuePlaces ∧ s.notices.length ≤ Config.noticePlaces ∧
  s.reqQueue.length ≤ Config.forwardPlaces ∧ s.respQueue.length ≤ Config.forwardPlaces ∧
  (s.uqAssembly ≠ none → s.reqQueue.length < Config.forwardPlaces ∧ s.ott.length < Config.ottItems) ∧
  (s.mpAssembly ≠ [] → s.respQueue.length < Config.forwardPlaces)

/-- The events hold no more records than there are record slots (R67). -/
def StoreFits (s : State) : Prop := s.buildRecords + s.queueRecords ≤ Config.recordSlots

/-- In OFF the window is empty and no trigger entry is live (R7, R39, R173). -/
def OffIsEmpty (s : State) : Prop := s.recState = .off → s.window = [] ∧ ∀ k, s.slot k = none

/-- DRAIN lasts only while the window holds an entry or a trigger entry is live (R176, R177). -/
def DrainHasWork (s : State) : Prop := s.recState = .drain → s.window ≠ [] ∨ ∃ k, s.slot k ≠ none

/-- The link holds a frame only while CS_N is low and RST_N is released, and none while CS_N has stayed low since that
release (R151, R158). -/
def FrameSound (s : State) : Prop :=
  (s.csLow = false → s.frame = []) ∧ (s.rst = true → s.frame = []) ∧
  (s.csIgnore = true → s.csLow = true ∧ s.frame = [])

/-- The live entry of a slot is PARKED. -/
def State.isParked (s : State) (k : Slot) : Prop := ∃ l, s.slot k = some l ∧ l.state = .parked

/-- The parking list holds each PARKED entry once and nothing else, and no place of the Event Queue stands free while it
holds one (R42, R82). -/
def ParkingSound (s : State) : Prop :=
  s.parking.Nodup ∧ (∀ k, k ∈ s.parking ↔ s.isParked k) ∧
  (s.parking ≠ [] → Config.queuePlaces ≤ s.queue.length)

/-- No two live entries carry the same tag (R25), the device tag counter holds a device tag (R31), and a live entry's tag
is below 192 exactly when its source is COMMAND (R30, R31). -/
def TagsSound (s : State) : Prop :=
  (∀ j k a b, s.slot j = some a → s.slot k = some b → a.tag = b.tag → j = k) ∧
  Config.firstDeviceTag ≤ s.deviceTag ∧
  (∀ k l, s.slot k = some l → (l.tag < Config.firstDeviceTag ↔ l.source = .command))

/-- A suspension stands only while the store holds a record, and the throttle's count stands at 0 while it does (R119,
R182, R183). -/
def SuspensionSound (s : State) : Prop :=
  s.suspended = true → s.freeSlots ≠ Config.recordSlots ∧ s.throttleCount = 0

/-- The event at the head of the Event Queue has a record left to send. -/
def State.headHasRecord (s : State) : Prop := ∃ e rest, s.queue = e :: rest ∧ e.records ≠ []

/-- What the framer offers is there to be sent (R128, R129), a record is offered exactly while an event is in transmission
(R136), and an event in transmission is at the head of the queue with its header or a record of it being sent (R79). -/
def OfferStands (s : State) : Prop :=
  match s.framer with
  | .idle => s.inTransmission = false
  | .offering c => s.rst = false ∧ (s.itemOf c).isSome ∧ (s.inTransmission = true ↔ c = .record)
  | .sending item =>
    s.rst = false ∧
    match item with
    | .eventHeader _ => s.inTransmission = true ∧ s.queue ≠ []
    | .record _ _ _ => s.inTransmission = true ∧ s.headHasRecord
    | .notice _ => s.inTransmission = false ∧ s.notices ≠ []
    | .burstClose _ _ => s.inTransmission = false ∧ s.burst ≠ none
    | .burstOpen _ _ _ => s.inTransmission = false
    | .status _ => s.inTransmission = false

/-- The OTT items that link to an entry. -/
def State.linksTo (s : State) (e : Entry) : List OttItem := s.ott.filter (fun i => e.namedBy i.link)

/-- Entries stand in places of their own, an entry is OPEN exactly when one OTT item links to it, and no item links to an
entry that is not in the window (R4, R8). -/
def LinksSound (s : State) : Prop :=
  (s.window.map Entry.place).Nodup ∧ (∀ e ∈ s.window, e.place < Config.windowPlaces) ∧
  (∀ e ∈ s.window, (s.linksTo e).length = if e.isOpen then 1 else 0) ∧
  (∀ i ∈ s.ott, ∀ q p, i.link = .entry q p → ∃ e ∈ s.window, e.seq = q ∧ e.place = p)

/-- The horizon stands at R3's value, or one tick behind while the last tick's expiry is owed; every window entry's request
tick is later than the horizon and not later than the tick number (R3, R4, R5, R16); and a COLLECTING entry's last tick is
later than the horizon and at most 7 ticks after the tick number, the longest a range can reach forward (R28, R29). -/
def InTime (s : State) : Prop :=
  let depth := (s.tick - s.horizon).toNat
  (s.horizon = horizonOf s.tick s.regs.latency ∨
    (s.owed.horizon = true ∧ s.horizon + 1 = horizonOf s.tick s.regs.latency)) ∧
  (∀ e ∈ s.window, 1 ≤ (e.reqTick - s.horizon).toNat ∧ (e.reqTick - s.horizon).toNat ≤ depth) ∧
  (∀ k l, s.slot k = some l → l.state = .collecting →
    1 ≤ (l.last - s.horizon).toNat ∧ (l.last - s.horizon).toNat ≤ depth + 7)

/-- An entry carries the mark of a slot only while that slot is COLLECTING with a range that holds the entry's request
tick (R19). -/
def MarksSound (s : State) : Prop :=
  ∀ e ∈ s.window, ∀ k ∈ e.marks, ∃ l, s.slot k = some l ∧ l.collects e.reqTick = true

/-! ## What the statements about the path call a whole item (R105, R107) -/

/-- The transfers that carry a request: its header, then its write beats (R105). -/
def Request.transfers (r : Request) : List ReqTransfer := .header r.header :: r.beats.map .beat

/-- A request as the path protocol has it: a READ has no beats, a WRITE as many as its length, which is 1 at least
(R105). -/
def Request.whole (r : Request) : Prop :=
  match r.header.kind with
  | .read => r.beats = []
  | .write => 1 ≤ r.header.len ∧ r.beats.length = r.header.len

/-- The transfers that make a response taken from an empty assembly: 1 to 16 of them, the final one marked last or the
sixteenth, and none before it marked last (R107). -/
def wholeResponse (ts : List RespTransfer) : Prop :=
  ∃ before t, ts = before ++ [t] ∧ (∀ u ∈ before, u.last = false) ∧
    before.length < Config.responseTransfers ∧ (t.last = true ∨ before.length + 1 = Config.responseTransfers)

/-- A response offers the Match Block no FAULT trigger: outside RUN, or OKAY, or with FAULT_CFG disabled (R99). -/
def noFault (s : State) (ts : List RespTransfer) : Prop :=
  s.recState ≠ .run ∨ respStatus ts = .okay ∨ cfgEnable s.regs.faultCfg = false

/-- The first response of an empty assembly finds room: its queue has a place and no reset is asserted (R107). -/
def responseOpen (s : State) : Prop :=
  s.rst = false ∧ s.mrst = false ∧ s.mpAssembly = [] ∧ s.respQueue.length < Config.forwardPlaces

/-- The request side is free: nothing in assembly and no hold reason (R106, R116). -/
def requestOpen (s : State) : Prop := s.uqAssembly = none ∧ s.held = false

/-! ## An expiry, as R16, R17, R69 and R70 tell it: which offers it makes and what each comes to -/

/-- What an offer comes to (R69, R70): stored, or truncated with one of the two reasons. -/
inductive Disposition where
  | stored
  | limit
  | full
  deriving DecidableEq, Repr

/-- The offers of an expiry up to a horizon, in the order they are made: the leaving entries oldest first, and for each
entry the slots whose mark it carries, in slot order (R16, R17). A mark whose slot is FREE makes no offer. -/
def State.offersUpTo (s : State) (h : Tick) : List (Record × Slot) :=
  (s.window.filter (fun e => atOrBefore e.reqTick h)).flatMap (fun e =>
    (allSlots.filter (fun k => e.marks.contains k && (s.slot k).isSome)).map (fun k => (e.copy, k)))

/-- What offers to the given slots come to, one after another, from a record limit, the record count of each slot's event
and the free slots (R69, R70). -/
def dispositions (limit : Nat) : (Slot → Nat) → Nat → List Slot → List Disposition
  | _, _, [] => []
  | held, free, k :: rest =>
    if limit ≤ held k then .limit :: dispositions limit held free rest
    else if free = 0 then .full :: dispositions limit held free rest
    else .stored :: dispositions limit (fun j => if j = k then held j + 1 else held j) (free - 1) rest

/-- The records that a slot's event under build holds; 0 for a FREE slot. -/
def State.heldBy (s : State) (k : Slot) : Nat :=
  match s.slot k with
  | none => 0
  | some l => l.event.records.length

/-- What the offers of an expiry come to. -/
def State.dispositionsUpTo (s : State) (h : Tick) : List Disposition :=
  dispositions s.regs.maxRecords.toNat s.heldBy s.freeSlots ((s.offersUpTo h).map Prod.snd)

/-- The offers of an expiry to one slot, each record with what became of it. -/
def State.offersTo (s : State) (h : Tick) (k : Slot) : List (Record × Disposition) :=
  (((s.offersUpTo h).zip (s.dispositionsUpTo h)).filter (fun p => p.1.2 == k)).map (fun p => (p.1.1, p.2))

/-- An event after offers to it: the stored records stand at its end in order, the others count as truncated, and each
reason stands if it stood before or an offer was truncated for it (R69, R70). -/
def EventBuild.after (ev : EventBuild) (offers : List (Record × Disposition)) : EventBuild :=
  { ev with
    records := ev.records ++ (offers.filter (fun p => p.2 == .stored)).map Prod.fst,
    truncated := satAdd ev.truncated (offers.countP (fun p => p.2 != .stored)),
    limitReason := ev.limitReason || offers.any (fun p => p.2 == .limit),
    storeFullReason := ev.storeFullReason || offers.any (fun p => p.2 == .full) }

/-- A live entry of a slot after an expiry: its event has met the offers to it, and nothing else of it moves (R16). -/
def State.expired (s : State) (h : Tick) (k : Slot) (l : Live) : Live := { l with event := l.event.after (s.offersTo h k) }

/-- The horizon report ends the entry's collection: it is COLLECTING, and its last tick is at or before the horizon (R39). -/
def Live.reachedBy (l : Live) (h : Tick) : Bool := l.state == .collecting && atOrBefore l.last h

/-- The entry's event is complete at the end of its collection: not provisional, or confirmed (R40). -/
def Live.complete (l : Live) : Bool := !l.provisional || l.confirmed

/-- The slots whose events a horizon report completes, in slot order (R39, R40). -/
def State.completedAt (s : State) (h : Tick) : List Slot :=
  allSlots.filter (fun k => (s.slot k).any (fun l => l.reachedBy h && l.complete))

/-- The slots whose decision deadline is the tick number, in slot order (R53, R54). -/
def State.deadlinesDue (s : State) : List Slot :=
  allSlots.filter (fun k => (s.slot k).any (fun l => l.state == .held s.tick))

/-! ## Commands by the port they come from -/

/-- The commands of the control link (R151 to R158); the rising of CS_N after release is not a frame. -/
def isLinkFrame : Instr → Bool
  | .nop | .readReg _ | .curTickHiRead | .curTickLoRead | .writeReg _ _ | .latencyWrite _ | .maxRecordsWrite _
  | .throttleMarkWrite _ | .burstSizeWrite _ | .statusPeriodWrite _ | .flagMaskWrite _ | .trigger _ _ | .confirm _
  | .cancel _ | .queryTag _ | .start | .stop | .flushWindow | .flushTriggers | .flushEvents | .flushNotices
  | .flushCounters | .takeFlags | .unknownCommand _ | .frameAbort _ | .badCheckByte _ | .flush _ => true
  | .tick _ | .horizonAdvance | .decisionDeadline | .throttleTimeout | .statusFrameDue | .requestTaken _
  | .requestPassed | .responseTaken _ | .responsePassed | .mrstAssert | .mrstRelease | .rstNAssert
  | .rstNRelease _ _ _ _ | .lineEdge _ _ | .itemBegin | .itemEnd | .csNRisesAfterRelease => false

end Sys2Proof.Machine
end

