-- ==== Sys2Proof/WellFormed.lean ====
section
/-! DEFINITION. Which terms of Instr spell a step of the part: the path protocol of R105, the rows of the table that have
a register of their own, and the frames a link row stands for (R152 to R155). exec has a meaning for every term. -/

namespace Sys2Proof

namespace ReqTransfer

/-- A header's length is 1 to 16 beats (R105). -/
def headerOk (h : ReqHeader) : Bool := 1 ≤ h.len && h.len ≤ 16

/-- Is the transfer a write beat? -/
def isBeat : ReqTransfer → Bool
  | .header _ => false
  | .beat _ => true

end ReqTransfer

/-- The transfers of a REQUEST_TAKEN: a READ is its header alone, a WRITE is its header and at most as many beats as its
length, and beats alone continue the request in assembly (R105, R106, log 8). -/
def requestTransfersOk : List ReqTransfer → Bool
  | [] => false
  | .header h :: rest =>
    ReqTransfer.headerOk h && rest.all ReqTransfer.isBeat &&
      (match h.kind with
       | .read => rest.isEmpty
       | .write => rest.length ≤ h.len)
  | .beat b :: rest => (ReqTransfer.beat b :: rest).all ReqTransfer.isBeat && rest.length < 16

/-- The transfers of a RESPONSE_TAKEN: 1 to 16, of which only the final one is marked last (R107, log 8). -/
def responseTransfersOk : List RespTransfer → Bool
  | [] => false
  | ts => ts.length ≤ Config.responseTransfers && ts.dropLast.all (fun t => !t.last)

/-- The well-formed commands. -/
def WellFormed : Instr → Bool
  | .requestTaken ts => requestTransfersOk ts
  | .responseTaken ts => responseTransfersOk ts
  | .readReg reg => reg ∉ Config.ownReadRows
  | .writeReg reg _ => reg ∉ Config.ownWriteRows
  | .unknownCommand command => command ∉ Config.commandCodes
  | .frameAbort received => !frameComplete (bytesOfBits received)
  | .badCheckByte frame =>
    frame.head?.any (fun c => frame.length == frameLength c) && byteSum frame != 0
  | .tick _ | .horizonAdvance | .decisionDeadline | .throttleTimeout | .statusFrameDue | .requestPassed
  | .responsePassed | .mrstAssert | .mrstRelease | .rstNAssert | .rstNRelease _ _ _ _ | .lineEdge _ _ | .nop
  | .curTickHiRead | .curTickLoRead | .latencyWrite _ | .maxRecordsWrite _ | .throttleMarkWrite _
  | .burstSizeWrite _ | .statusPeriodWrite _ | .flagMaskWrite _ | .trigger _ _ | .confirm _ | .cancel _
  | .queryTag _ | .start | .stop | .flushWindow | .flushTriggers | .flushEvents | .flushNotices | .flushCounters
  | .takeFlags | .itemBegin | .itemEnd | .flush _ | .csNRisesAfterRelease => true

end Sys2Proof
end

