-- ==== Sys2Proof/Certificates/Slice0/Obligations.lean ====
section
/-! DEFINITION. The statements about the model, each read from the rules its docstring names. Every statement about a
command says for which states and operands it completes, and its next state is written out, so that what the equation
does not change is unchanged. A link command also leaves CS_N low and its frame standing, which is the model's reading of a
frame as one command (log 15); where a docstring says that a link command changes nothing, the answer and these two are
set beside. -/

open Sys2Proof Sys2Proof.Machine

/-! ## Reset, the queue, the clock -/

/-- R185, 11.1 and the rules that give reset values: after reset the 63 registers read the values of table 11.1, and the
state that no register shows stands at its own rule's reset value (R2, R3, R4, R6, R25, R31, R77, R111, R119, R128, R138,
R141, R144, R149, R161, R182). RUN_STATE has no value in table 11.1: it reads 0 by R187 because the model's reset has MRST
released and the request forward queue empty, which is the model's choice (log 11). -/
def Obligations.ResetValues : Prop :=
  (List.range 63).map (fun n => State.reset.regValueAt (BitVec.ofNat 8 n)) =
    [0x1520, 0, 64, 100, 1, 64, 256, 4, 4, 4, 4, 0,
     0xFFFF, 0xFFFF, 0, 0, 3, 0xFFFF, 0xFFFF, 0xFFFF, 0, 0, 3, 0xFFFF,
     0xFFFF, 0xFFFF, 0, 0, 3, 0xFFFF, 0xFFFF, 0xFFFF, 0, 0, 3, 0xFFFF,
     4, 0, 4096, 7, 0, 0x013E, 0, 0, 0, 0, 0, 1024, 0, 0,
     0, 0, 0, 0, 0, 0, 0, 0, 0, 0, 0, 0, 0] ∧
  State.reset.tick = 0 ∧ State.reset.horizon = 16777151 ∧ State.reset.window = [] ∧ State.reset.seq = 0 ∧
  (∀ k, State.reset.slot k = none) ∧ State.reset.parking = [] ∧ State.reset.deviceTag = 192 ∧
  State.reset.queue = [] ∧ State.reset.inTransmission = false ∧ State.reset.ott = [] ∧
  State.reset.throttleCount = 0 ∧ State.reset.framer = .idle ∧ State.reset.restart = true ∧
  State.reset.burst = none ∧ State.reset.burstNumber = 0 ∧ State.reset.statusTimer = 0 ∧ State.reset.notices = [] ∧
  State.reset.capture = none ∧ State.reset.suspended = false ∧ State.reset.periodCount = 0

/-- A step takes the command at the front of the queue and is that command's effect on the state with the queue's rest. On an
empty queue, the model's choice (log 12), it is one period of REFCLK (R1): counted up to one short of the TICK_DIV in force,
where the tick that would follow is the TICK command's, and held under RST_N. -/
def Obligations.StepRunsTheFrontCommand : Prop :=
  (∀ (c : Instr) (rest : List Instr) (s : State), s.pending = c :: rest → step s = exec c { s with pending := rest }) ∧
  (∀ (s : State), s.pending = [] →
    (s.rst = false → s.periodCount + 1 < s.divInForce.toNat →
      step s = .next { s with periodCount := s.periodCount + 1 }) ∧
    (s.rst = false → s.divInForce.toNat ≤ s.periodCount + 1 → step s = .next s) ∧
    (s.rst = true → step s = .next s))

/-- R1, R2, R119, R141, R182: a tick advances the tick number modulo 2^24 and the status timer (saturating), starts the
period count again with the TICK_DIV now written, and, where the count comes with the tick, takes the Path Unit's throttle
count: 0 while THROTTLE does not apply, one more while it does, and at THROTTLE_LIMIT the timeout in the same act, which
counts in THROTTLE_TIMEOUTS, sets the THROTTLE flag, suspends the throttle and returns the count to 0. A count left to a
later step of the tick is owed (the operand and `owed` are the model's, logs 2 and 3). -/
def Obligations.TickAdvances : Prop :=
  ∀ (s : State), s.rst = false → s.owed = Owed.nothing →
    let ticked (count : Option CountOrder) : State := { s with
      tick := s.tick + 1, periodCount := 0, divInForce := s.regs.tickDiv,
      statusTimer := if s.statusTimer = 65535 then 65535 else s.statusTimer + 1,
      owed := { count := count, horizon := true, deadlines := true, choice := true } }
    (s.throttleHold = false → exec (.tick .atOnce) s = .next { ticked none with throttleCount := 0 }) ∧
    (s.throttleHold = true → satInc s.throttleCount < s.regs.throttleLimit →
      exec (.tick .atOnce) s = .next { ticked none with throttleCount := satInc s.throttleCount }) ∧
    (s.throttleHold = true → s.regs.throttleLimit ≤ satInc s.throttleCount →
      exec (.tick .atOnce) s = .next { ticked none with
        suspended := true, throttleCount := 0,
        counters := { s.counters with throttleTimeouts := satInc s.counters.throttleTimeouts },
        flags := s.flags ||| 0x0010 }) ∧
    ∀ o, o ≠ .atOnce → exec (.tick o) s = .next (ticked (some o))

/-- The model's choice (log 2): a TICK first takes what the last tick still owes, each as its own command would: the
horizon advance, then the deadlines, then the throttle count (where that times out, THROTTLE_TIMEOUT is the same act, log 6),
then the framer's choice. -/
def Obligations.TickFirstTakesWhatIsOwed : Prop :=
  ∀ (s : State) (o : CountOrder), s.rst = false →
    (s.owed.horizon = true → ∃ t, exec .horizonAdvance s = .next t ∧ exec (.tick o) s = exec (.tick o) t) ∧
    (s.owed.horizon = false → s.owed.deadlines = true →
      ∃ t, exec .decisionDeadline s = .next t ∧ exec (.tick o) s = exec (.tick o) t) ∧
    (s.owed.horizon = false → s.owed.deadlines = false → s.owed.count ≠ none →
      exec (.tick o) s = exec (.tick o) s.countThrottle ∧
      (s.throttleHold = true → s.regs.throttleLimit ≤ satInc s.throttleCount →
        ∃ t, exec .throttleTimeout s = .next t ∧ exec (.tick o) s = exec (.tick o) t)) ∧
    (s.owed.horizon = false → s.owed.deadlines = false → s.owed.count = none → s.owed.choice = true →
      ∃ t, exec .statusFrameDue s = .next t ∧ exec (.tick o) s = exec (.tick o) t)

/-- R119, R182: the Path Unit's count of a tick: 0 while THROTTLE does not apply, one more while it does; at THROTTLE_LIMIT the
throttle times out in the same act, counted in THROTTLE_TIMEOUTS, flagged, suspended, the count back to 0.
Where the count was left to come later (the model's operand, log 3: after the window's offers, as the example "a throttle
timeout" has it, or after the deadlines), that step ends with it. THROTTLE_TIMEOUT takes the count that is owed and times out
(the model's reading, log 6), and where no timeout is due it changes nothing (the model's choice, log 7). -/
def Obligations.ThrottleCountsAndTimesOut : Prop :=
  (∀ (s : State),
    let taken : Owed := { s.owed with count := none }
    (s.throttleHold = false → s.countThrottle = { s with throttleCount := 0, owed := taken }) ∧
    (s.throttleHold = true → satInc s.throttleCount < s.regs.throttleLimit →
      s.countThrottle = { s with throttleCount := satInc s.throttleCount, owed := taken }) ∧
    (s.throttleHold = true → s.regs.throttleLimit ≤ satInc s.throttleCount →
      s.countThrottle = { s with
        suspended := true, throttleCount := 0, owed := taken,
        counters := { s.counters with throttleTimeouts := satInc s.counters.throttleTimeouts },
        flags := s.flags ||| 0x0010 })) ∧
  (∀ (s : State), s.rst = false →
    let early : State := { s with owed := { s.owed with count := none } }
    (s.owed.count = some .afterExpiry → ∃ u,
      exec .horizonAdvance early = .next u ∧ exec .horizonAdvance s = .next u.countThrottle) ∧
    (s.owed.count = some .afterDeadlines → ∃ u,
      exec .decisionDeadline early = .next u ∧ exec .decisionDeadline s = .next u.countThrottle)) ∧
  (∀ (s : State),
    (s.owed.count ≠ none → s.throttleHold = true → s.regs.throttleLimit ≤ satInc s.throttleCount →
      exec .throttleTimeout s = .next s.countThrottle) ∧
    ((s.owed.count = none ∨ s.throttleHold = false ∨ satInc s.throttleCount < s.regs.throttleLimit) →
      exec .throttleTimeout s = .next s))

/-! ## The horizon, the offers, the end of collection -/

/-- R3, R16: at the window's action the horizon stands at R3's value, exactly the entries at or before it leave, and the OTT
item of each that leaves OPEN becomes EXPIRED. Beside these the action reaches the trigger slots, the Event Queue, the
parking list, the framer's choice, the recorder state, TRUNCATED_RECORDS, the flags STORE_FULL and DRAINED and what the tick
owes (the next three statements), and where the throttle's count was left to it (log 3) that count; nothing else changes.
R2: tick a is at or before tick b when (b - a) mod 2^24 is below 2^23, and a range holds the ticks from its first to its last. -/
def Obligations.HorizonAdvanceMovesTheWindow : Prop :=
  (∀ a b : Tick, atOrBefore a b = true ↔ (b - a).toNat < 8388608) ∧
  (∀ t f l : Tick, inRange t f l = true ↔ atOrBefore f t = true ∧ atOrBefore t l = true) ∧
  ∀ (s : State), s.rst = false → ∃ t, exec .horizonAdvance s = .next t ∧
    t.horizon = s.tick - s.regs.latency.setWidth 24 - 1 ∧
    t.window = s.window.filter (fun e => !atOrBefore e.reqTick t.horizon) ∧
    t.ott = s.ott.map (fun i =>
      if s.window.any (fun e => atOrBefore e.reqTick t.horizon && e.isOpen && e.namedBy i.link)
      then { i with link := .expired } else i) ∧
    t.owed.horizon = false ∧ t.owed.deadlines = s.owed.deadlines ∧ t.owed.choice = s.owed.choice ∧
    (s.owed.count ≠ some .afterExpiry →
      t.owed.count = s.owed.count ∧ t.throttleCount = s.throttleCount ∧ t.suspended = s.suspended) ∧
    (∀ c, c ≠ .truncatedRecords → (c = .throttleTimeouts → s.owed.count ≠ some .afterExpiry) →
      t.counters.get c = s.counters.get c) ∧
    (∀ f, f ≠ .storeFull → f ≠ .drained → (f = .throttle → s.owed.count ≠ some .afterExpiry) →
      t.flagSet f = s.flagSet f) ∧
    t = { s with
      horizon := t.horizon, window := t.window, ott := t.ott, slots := t.slots, queue := t.queue, parking := t.parking,
      framer := t.framer, recState := t.recState, counters := t.counters, flags := t.flags, owed := t.owed,
      throttleCount := t.throttleCount, suspended := t.suspended }

/-- R69, R70: an offer is stored at the tail of the event while the record count is below MAX_RECORDS and a slot is free,
and takes one free slot; at MAX_RECORDS it is truncated with reason LIMIT, counted, and sets no flag; below it with no free
slot it is truncated with reason STORE_FULL, counted and flagged. A slot that is FREE takes no offer. -/
def Obligations.OfferIsStoredOrTruncated : Prop :=
  ∀ (s : State) (r : Record) (k : Slot),
    (s.slot k = none → s.offerRecord r k = s) ∧
    ∀ (l : Live), s.slot k = some l →
    (l.event.records.length < s.regs.maxRecords.toNat → 1 ≤ s.freeSlots →
      s.offerRecord r k = s.setSlot k (some { l with event := { l.event with records := l.event.records ++ [r] } }) ∧
      (s.offerRecord r k).freeSlots = s.freeSlots - 1) ∧
    (s.regs.maxRecords.toNat ≤ l.event.records.length →
      s.offerRecord r k = { s.setSlot k (some { l with event := { l.event with
          truncated := satInc l.event.truncated, limitReason := true } }) with
        counters := { s.counters with truncatedRecords := satInc s.counters.truncatedRecords } }) ∧
    (l.event.records.length < s.regs.maxRecords.toNat → s.freeSlots = 0 →
      s.offerRecord r k = { s.setSlot k (some { l with event := { l.event with
          truncated := satInc l.event.truncated, storeFullReason := true } }) with
        counters := { s.counters with truncatedRecords := satInc s.counters.truncatedRecords },
        flags := s.flags ||| 0x0008 })

/-- R16, R17, R69, R70: HORIZON_ADVANCE offers each leaving entry, oldest first, to each live slot whose mark it carries, in slot
order. An offer is truncated with reason LIMIT exactly when the event holds MAX_RECORDS records by then, with reason STORE_FULL
exactly when it holds fewer and no record slot is free by then, and stored otherwise. A slot's event gains the stored
records in order at its end, its truncated count goes up by the others, and each reason stands exactly if it stood before or an
offer was truncated for it; the missed count and the rest of the entry stand. So no marked entry is lost without account.
TRUNCATED_RECORDS counts every truncated offer, and STORE_FULL is set by the second reason alone. The copy offered carries
the entry as it leaves: status OPEN with no latency and the mismatch flag clear while it has no response part, the response's
status, latency and mismatch flag when answered, ABANDONED with no latency when MRST closed it. -/
def Obligations.EveryMarkedEntryIsStoredOrTruncated : Prop :=
  (∀ (s : State), s.rst = false →
    let h := s.tick - s.regs.latency.setWidth 24 - 1
    let fates := s.dispositionsUpTo h
    (∀ k l, s.slot k = some l → (s.expire h).slot k = some { l with event := l.event.after (s.offersTo h k) }) ∧
    ∃ t, exec .horizonAdvance s = .next t ∧
      (∀ k l, s.slot k = some l → (l.state ≠ .collecting ∨ atOrBefore l.last h = false) →
        t.slot k = some { l with event := l.event.after (s.offersTo h k) }) ∧
      t.counters.truncatedRecords = satAdd s.counters.truncatedRecords (fates.countP (fun d => d != .stored)) ∧
      t.flagSet .storeFull = (s.flagSet .storeFull || fates.contains .full)) ∧
  (∀ (s : State) (h : Tick) (k : Slot) (l : Live), s.slot k = some l →
    (s.offersTo h k).map Prod.fst =
      (s.window.filter (fun e => atOrBefore e.reqTick h && e.marks.contains k)).map Entry.copy) ∧
  (∀ (limit : Nat) (held : Slot → Nat) (free : Nat) (ks : List Slot),
    (dispositions limit held free ks).length = ks.length ∧
    ∀ i k, ks[i]? = some k →
      let before := (ks.zip (dispositions limit held free ks)).take i
      (dispositions limit held free ks)[i]? = some (
        if limit ≤ held k + before.countP (fun p => p.1 == k && p.2 == .stored) then .limit
        else if free ≤ before.countP (fun p => p.2 == .stored) then .full else .stored)) ∧
  (∀ (e : Entry),
    (e.copy.seq = e.seq ∧ e.copy.reqTick = e.reqTick ∧ e.copy.kind = e.kind ∧ e.copy.id = e.id ∧
      e.copy.addr = e.addr ∧ e.copy.len = e.len ∧ e.copy.partialWrite = e.partialWrite ∧
      e.copy.matchFlags = e.matchFlags ∧ e.copy.data = e.data) ∧
    (e.response = none → e.copy.status = .opened ∧ e.copy.latency = none ∧ e.copy.mismatch = false) ∧
    (∀ st lat m, e.response = some (.answered st lat m) →
      e.copy.status = (if st = .okay then .okay else .error) ∧ e.copy.latency = some lat ∧ e.copy.mismatch = m) ∧
    (e.response = some .abandoned → e.copy.status = .abandoned ∧ e.copy.latency = none ∧ e.copy.mismatch = false))

/-- R39, R40, R41, R42, R51: an entry whose collection ends gets its close tick and is HELD until DECISION ticks later
when provisional and unconfirmed; else its event enters the tail of the Event Queue and the slot becomes FREE when the queue
has a place, and the entry is PARKED at the tail of the parking list when it has none.
R18, R39, R78: at HORIZON_ADVANCE this happens to every COLLECTING entry whose last tick is at or before the horizon, with the
records its event holds after that expiry, and to no other entry. In slot order the completed events take the places left
in the queue and the rest park; the framer re-makes its choice where an event entered the queue (R129). -/
def Obligations.EndOfCollectionHoldsHandsOverOrParks : Prop :=
  (∀ (s : State) (k : Slot) (l : Live), s.slot k = some l →
    (l.provisional = true → l.confirmed = false →
      s.endCollection k = s.setSlot k (some { l with
        closeTick := some s.tick, state := .held (s.tick + s.regs.decision.setWidth 24) })) ∧
    ((l.provisional = false ∨ l.confirmed = true) → s.queue.length < 32 →
      s.endCollection k = (({ s with queue := s.queue ++ [{
          tag := l.tag, source := l.source, provisional := l.provisional, confirmed := l.confirmed,
          trigTick := l.trigTick, first := l.first, span := l.span, records := l.event.records,
          truncated := l.event.truncated, limitReason := l.event.limitReason,
          storeFullReason := l.event.storeFullReason, missed := l.event.missed }] } : State).setSlot k none).rechoose) ∧
    ((l.provisional = false ∨ l.confirmed = true) → 32 ≤ s.queue.length →
      s.endCollection k = ({ s with parking := s.parking ++ [k] } : State).setSlot k (some { l with
        closeTick := some s.tick, state := .parked }))) ∧
  (∀ (s : State), s.rst = false →
    let h := s.tick - s.regs.latency.setWidth 24 - 1
    let done := s.completedAt h
    let entering := done.take (32 - s.queue.length)
    let waiting := done.drop (32 - s.queue.length)
    ∃ t, exec .horizonAdvance s = .next t ∧
      t.queue = s.queue ++ entering.filterMap (fun k => (s.slot k).map (fun l => (s.expired h k l).completed)) ∧
      t.parking = s.parking ++ waiting ∧
      (∀ k ∈ entering, t.slot k = none) ∧
      (∀ k ∈ waiting, ∀ l, s.slot k = some l → t.slot k = some { s.expired h k l with
        closeTick := some s.tick, state := .parked }) ∧
      (∀ k l, s.slot k = some l → l.state = .collecting → atOrBefore l.last h = true →
        (l.provisional = true → l.confirmed = false → t.slot k = some { s.expired h k l with
          closeTick := some s.tick, state := .held (s.tick + s.regs.decision.setWidth 24) }) ∧
        ((l.provisional = false ∨ l.confirmed = true) → k ∈ done)) ∧
      (∀ k l, s.slot k = some l → (l.state ≠ .collecting ∨ atOrBefore l.last h = false) →
        k ∉ done ∧ t.slot k = some (s.expired h k l)) ∧
      (∀ k, s.slot k = none → k ∉ done ∧ t.slot k = none) ∧
      t.framer = (if entering = [] then s.framer else ({ s with queue := t.queue } : State).rechoose.framer))

/-! ## Discards and deadlines -/

/-- R53, R54, R62, R63: at DECISION_DEADLINE every HELD entry whose deadline is the tick number is discarded, in slot order, and
every other slot stands. Each discard counts in DISCARDED_EVENTS and DECISION_TIMEOUTS, sets TIMEOUT, and offers a DISCARD
notice with its tag, reason TIMEOUT, the records it held and the tick, where NOTICE_EN enables that kind: the notices join the
queue in slot order while it has places, and those that find none are counted in NOTICES_LOST and flagged (R144). A store
left empty ends a suspension (R183). The window, the Event Queue, the parking list and all else that is not named stand; with no
such entry nothing changes but that the tick no longer owes the deadlines. Where the throttle's count was left to this
step, it comes after all of this (ThrottleCountsAndTimesOut).
R60, R62, R63, R75: a discard removes the slot's marks if it is COLLECTING, makes the slot FREE (which frees its
records), tests the end of DRAIN, counts DISCARDED_EVENTS, for a timeout also DECISION_TIMEOUTS and the TIMEOUT flag, and
offers a DISCARD notice with the tag, the reason, the records freed and the tick. -/
def Obligations.DeadlinesAndDiscards : Prop :=
  (∀ (s : State), s.rst = false → s.owed.count ≠ some .afterDeadlines →
    let due := s.deadlinesDue
    let offered : List Notice := if s.regs.noticeEn.getLsbD 1 then due.filterMap (fun k => (s.slot k).map (fun l =>
      .discard l.tag .timeout l.event.records.length s.tick)) else []
    let lost := offered.length - (8 - s.notices.length)
    ∃ t, exec .decisionDeadline s = .next t ∧
      (∀ k, k ∈ due ↔ ∃ l, s.slot k = some l ∧ l.state = .held s.tick) ∧
      (∀ k, t.slot k = if k ∈ due then none else s.slot k) ∧
      t.notices = s.notices ++ offered.take (8 - s.notices.length) ∧
      t.counters = { s.counters with
        discardedEvents := satAdd s.counters.discardedEvents due.length,
        decisionTimeouts := satAdd s.counters.decisionTimeouts due.length,
        noticesLost := satAdd s.counters.noticesLost lost } ∧
      t.flagSet .timeout = (s.flagSet .timeout || decide (due ≠ [])) ∧
      t.flagSet .noticeLost = (s.flagSet .noticeLost || decide (lost ≠ 0)) ∧
      (∀ f, f ≠ .timeout → f ≠ .noticeLost → f ≠ .drained → t.flagSet f = s.flagSet f) ∧
      t.suspended = (s.suspended && decide (due = [] ∨ t.freeSlots ≠ 1024)) ∧
      t.framer = (if t.notices = s.notices then s.framer
        else ({ s with notices := t.notices } : State).rechoose.framer) ∧
      t = { s with
        slots := t.slots, suspended := t.suspended, recState := t.recState, counters := t.counters, flags := t.flags,
        notices := t.notices, framer := t.framer, owed := { s.owed with deadlines := false } } ∧
      (due = [] → t = { s with owed := { s.owed with deadlines := false } })) ∧
  (∀ (s : State) (k : Slot) (l : Live), s.slot k = some l →
    let removed := ({ s with
      window := if l.state = .collecting then
          s.window.map (fun e => { e with marks := e.marks.filter (fun j => j != k) }) else s.window } : State).setSlot k none
    s.discardReported k .cancel = ({ removed.storeChanged.drainTest with
        counters := { s.counters with discardedEvents := satInc s.counters.discardedEvents } }).notify
      (.discard l.tag .cancel l.event.records.length s.tick) ∧
    s.discardReported k .timeout = ({ removed.storeChanged.drainTest with
        counters := { s.counters with
          discardedEvents := satInc s.counters.discardedEvents,
          decisionTimeouts := satInc s.counters.decisionTimeouts },
        flags := removed.storeChanged.drainTest.flags ||| 0x0002 }).notify
      (.discard l.tag .timeout l.event.records.length s.tick))

/-- R174, R176, R177, R178, R182, R183: Run Control ends DRAIN when the window and the Trigger Table are both empty, and sets
DRAINED in the same act; otherwise its test changes nothing. A free-slot count of 1024 ends a suspension and any other leaves
it. Taken in DRAIN, HORIZON_ADVANCE and DECISION_DEADLINE leave the recorder OFF with DRAINED set when they leave both
empty, and in DRAIN with that flag as it was otherwise (the deadlines test at each discard, so their clause assumes the
invariant that DRAIN has work); taken in OFF or RUN they leave the recorder state and that flag. -/
def Obligations.DrainEndsWhenBothAreEmpty : Prop :=
  (∀ (s : State),
    (s.recState = .drain → s.window = [] → (∀ k, s.slot k = none) →
      s.drainTest = { s with recState := .off, flags := s.flags ||| 0x0100 }) ∧
    ((s.recState ≠ .drain ∨ s.window ≠ [] ∨ ∃ k, s.slot k ≠ none) → s.drainTest = s) ∧
    (s.freeSlots = 1024 → s.storeChanged = { s with suspended := false }) ∧
    (s.freeSlots ≠ 1024 → s.storeChanged = s)) ∧
  (∀ (s : State) (c : Instr), s.rst = false →
    (c = .horizonAdvance ∨ c = .decisionDeadline ∧ DrainHasWork s) →
    ∃ t, exec c s = .next t ∧
      (s.recState = .drain → t.window = [] → (∀ k, t.slot k = none) →
        t.recState = .off ∧ t.flagSet .drained = true) ∧
      (s.recState = .drain → (t.window ≠ [] ∨ ∃ k, t.slot k ≠ none) →
        t.recState = .drain ∧ t.flagSet .drained = s.flagSet .drained) ∧
      (s.recState ≠ .drain → t.recState = s.recState ∧ t.flagSet .drained = s.flagSet .drained))

/-! ## The framer and the Notice Queue -/

/-- R135, R136, R149: the choice at an item boundary. Inside an event it is the next record; while the restart condition
stands it is a STATUS frame for a waiting notice or a due frame, else a BURST_OPEN for a waiting event; otherwise the first
row of R135 that applies.
R128, R129: a change of what is available re-makes the choice while no item is being sent, and leaves an item that has
begun alone. -/
def Obligations.ArbiterChoosesByTheFirstRow : Prop :=
  (∀ (s : State), s.rst = false →
    let due := s.regs.statusPeriod ≠ 0 ∧ s.regs.statusPeriod ≤ s.statusTimer
    (s.inTransmission = true → s.choose = some .record) ∧
    (s.inTransmission = false → s.restart = true → (s.notices ≠ [] ∨ due) → s.choose = some .status) ∧
    (s.inTransmission = false → s.restart = true → s.notices = [] → ¬ due →
      s.choose = if s.queue = [] then none else some .burstOpen) ∧
    (s.inTransmission = false → s.restart = false → s.notices ≠ [] → s.choose = some .notice) ∧
    (∀ b, s.inTransmission = false → s.restart = false → s.notices = [] → s.burst = some b →
      s.choose = if s.regs.burstSize.toNat ≤ b.events ∨ s.queue = [] then some .burstClose else some .eventHeader) ∧
    (s.inTransmission = false → s.restart = false → s.notices = [] → s.burst = none → s.queue ≠ [] →
      s.choose = some .burstOpen) ∧
    (s.inTransmission = false → s.restart = false → s.notices = [] → s.burst = none → s.queue = [] → due →
      s.choose = some .status) ∧
    (s.inTransmission = false → s.restart = false → s.notices = [] → s.burst = none → s.queue = [] → ¬ due →
      s.choose = none)) ∧
  (∀ (s : State),
    (∀ item, s.framer = .sending item → s.rechoose = s) ∧
    ((∀ item, s.framer ≠ .sending item) → ∀ c, s.choose = some c → s.rechoose = { s with framer := .offering c }) ∧
    ((∀ item, s.framer ≠ .sending item) → s.choose = none → s.rechoose = { s with framer := .idle }))

/-- R144, R146, 11.2: bits 0, 1 and 2 of NOTICE_EN enable the SKIP, the DISCARD and the ORPHAN notices. An offered notice joins the
tail and the framer chooses again; it is lost, counted and flagged when the queue holds 8; a notice of a disabled kind is
not offered. -/
def Obligations.NoticeJoinsOrIsLost : Prop :=
  ∀ (s : State) (n : Notice),
    let enabled := match n with
      | .skip _ _ _ _ => s.regs.noticeEn.getLsbD 0
      | .discard _ _ _ _ => s.regs.noticeEn.getLsbD 1
      | .orphan _ _ _ => s.regs.noticeEn.getLsbD 2
    (enabled = true → s.notices.length < 8 →
      s.notify n = ({ s with notices := s.notices ++ [n] } : State).rechoose) ∧
    (enabled = true → 8 ≤ s.notices.length →
      s.notify n = { s with
        counters := { s.counters with noticesLost := satInc s.counters.noticesLost }, flags := s.flags ||| 0x0020 }) ∧
    (enabled = false → s.notify n = s)

/-- R141, R135 row 6, R149: with no item being sent, no notice, no open burst and no event, a due status frame is offered. That
STATUS_FRAME_DUE re-makes the framer's choice, and so leaves the framer IDLE where no frame is due, is the model's choice (log
20), and so is the note in `owed` that the tick's choice is made (log 2), which is all the command does while an item is
being sent. -/
def Obligations.StatusFrameIsOfferedWhenDue : Prop :=
  ∀ (s : State), s.rst = false → s.inTransmission = false → s.notices = [] → s.burst = none → s.queue = [] →
    ((∀ item, s.framer ≠ .sending item) → s.regs.statusPeriod ≠ 0 → s.regs.statusPeriod ≤ s.statusTimer →
      exec .statusFrameDue s = .next { s with
        framer := .offering .status, owed := { s.owed with choice := false } }) ∧
    ((∀ item, s.framer ≠ .sending item) → (s.regs.statusPeriod = 0 ∨ s.statusTimer < s.regs.statusPeriod) →
      exec .statusFrameDue s = .next { s with framer := .idle, owed := { s.owed with choice := false } }) ∧
    (∀ item, s.framer = .sending item →
      exec .statusFrameDue s = .next { s with owed := { s.owed with choice := false } })

/-- R128, R131 to R134, R138, R139, R141, R142, R149: an item begins with its contents as they stand, the status timer
returns to 0 and the restart condition ends. A BURST_OPEN opens the burst under the burst number, which goes up by one; an
EVENT_HEADER puts the head event in transmission; a RECORD sets the previous address. With nothing offered, or an item being
sent, the command changes nothing, which is the model's choice (log 7). -/
def Obligations.ItemBeginsAsOffered : Prop :=
  ∀ (s : State),
    (∀ n rest, s.framer = .offering .notice → s.notices = n :: rest →
      exec .itemBegin s = .next { s with framer := .sending (.notice n), statusTimer := 0, restart := false }) ∧
    (∀ b, s.framer = .offering .burstClose → s.burst = some b →
      exec .itemBegin s = .next { s with
        framer := .sending (.burstClose b.number b.events), statusTimer := 0, restart := false }) ∧
    (∀ e rest, s.framer = .offering .eventHeader → s.queue = e :: rest →
      exec .itemBegin s = .next { s with
        framer := .sending (.eventHeader {
          tag := e.tag, source := e.source, provisional := e.provisional, confirmed := e.confirmed,
          limitReason := e.limitReason, storeFullReason := e.storeFullReason, trigTick := e.trigTick,
          first := e.first, span := e.span, recordCount := e.records.length, truncated := e.truncated,
          missed := e.missed }),
        inTransmission := true, statusTimer := 0, restart := false }) ∧
    (∀ e rest r more, s.framer = .offering .record → s.queue = e :: rest → e.records = r :: more →
      exec .itemBegin s = .next { s with
        framer := .sending (.record r ((r.reqTick - e.first).setWidth 3) (addrForm s.prevAddr r.addr)),
        prevAddr := some r.addr, statusTimer := 0, restart := false }) ∧
    (s.framer = .offering .burstOpen →
      exec .itemBegin s = .next { s with
        framer := .sending (.burstOpen s.devId s.burstNumber s.tick),
        burst := some { number := s.burstNumber, events := 0 }, burstNumber := s.burstNumber + 1,
        statusTimer := 0, restart := false }) ∧
    (s.framer = .offering .status →
      exec .itemBegin s = .next { s with
        framer := .sending (.status {
          device := s.devId, recState := s.recState, tick := s.tick, windowCount := s.window.length,
          storeFree := s.freeSlots, queueCount := s.queue.length,
          reg1 := s.regs.statusSel.extractLsb' 8 8, value1 := s.regValueAt (s.regs.statusSel.extractLsb' 8 8),
          reg2 := s.regs.statusSel.extractLsb' 0 8, value2 := s.regValueAt (s.regs.statusSel.extractLsb' 0 8) }),
        statusTimer := 0, restart := false }) ∧
    ((s.framer = .idle ∨ ∃ item, s.framer = .sending item) → exec .itemBegin s = .next s)

/-- R80, R81, R136, R139, R144: an item ends and the framer makes its next choice. A notice leaves its queue; a BURST_CLOSE
closes the burst; a RECORD's record leaves its event and its slot is freed; with its last record, or the header of an event
with none, the event leaves the queue, is counted in EVENTS_SENT and in the burst, and the previous address is discarded. With no
item being sent the command changes nothing, which is the model's choice (log 7).
R42, R82: where an event leaves a full queue, with its last record or by the header of an event with none, while the parking list
holds an entry, the entry at its head hands its event over into the place and its slot becomes FREE. -/
def Obligations.ItemEndsWithItsEffect : Prop :=
  (∀ (s : State),
    (∀ n, s.framer = .sending (.notice n) →
      exec .itemEnd s = .next ({ s with notices := s.notices.tail } : State).offer) ∧
    (∀ n c, s.framer = .sending (.burstClose n c) → exec .itemEnd s = .next ({ s with burst := none } : State).offer) ∧
    (∀ d n t, s.framer = .sending (.burstOpen d n t) → exec .itemEnd s = .next s.offer) ∧
    (∀ f, s.framer = .sending (.status f) → exec .itemEnd s = .next s.offer) ∧
    (∀ h e rest, s.framer = .sending (.eventHeader h) → s.queue = e :: rest → e.records ≠ [] →
      exec .itemEnd s = .next s.offer) ∧
    (∀ r o a e rest r1 r2 more, s.framer = .sending (.record r o a) → s.queue = e :: rest →
      e.records = r1 :: r2 :: more →
      exec .itemEnd s = .next (({ s with
        queue := { e with records := r2 :: more } :: rest } : State).storeChanged).offer) ∧
    (∀ h e rest, s.framer = .sending (.eventHeader h) → s.queue = e :: rest → e.records = [] → s.parking = [] →
      exec .itemEnd s = .next (({ s with
        queue := rest, inTransmission := false, prevAddr := none,
        burst := s.burst.map (fun b => { b with events := b.events + 1 }),
        counters := { s.counters with eventsSent := satInc s.counters.eventsSent } } : State).drainTest).offer) ∧
    (∀ r o a e rest r1, s.framer = .sending (.record r o a) → s.queue = e :: rest → e.records = [r1] →
      s.parking = [] →
      exec .itemEnd s = .next (((({ s with
        queue := rest, inTransmission := false, prevAddr := none,
        burst := s.burst.map (fun b => { b with events := b.events + 1 }),
        counters := { s.counters with eventsSent := satInc s.counters.eventsSent } } : State).storeChanged).drainTest).offer)) ∧
    ((s.framer = .idle ∨ ∃ c, s.framer = .offering c) → exec .itemEnd s = .next s)) ∧
  (∀ (s : State) (e : Event) (rest : List Event) (k : Slot) (waiting : List Slot) (l : Live),
    s.queue = e :: rest → s.queue.length = 32 → s.parking = k :: waiting → s.slot k = some l →
    let left : State := { s with
      queue := rest ++ [l.completed], parking := waiting, slots := s.slots.set k.val none k.isLt,
      inTransmission := false, prevAddr := none, burst := s.burst.map (fun b => { b with events := b.events + 1 }),
      counters := { s.counters with eventsSent := satInc s.counters.eventsSent } }
    (∀ h, s.framer = .sending (.eventHeader h) → e.records = [] → exec .itemEnd s = .next left.drainTest.offer) ∧
    (∀ r o a r1, s.framer = .sending (.record r o a) → e.records = [r1] →
      exec .itemEnd s = .next left.storeChanged.drainTest.offer))

/-- R130, R131, R132, R134, R138, R139, R142, 11.4: every item's bytes sum to zero modulo 256, each kind has the length of
11.4, and before the check byte the bytes are the type byte and the fields of 11.4 in its order, multi-byte fields high
byte first, each coded field at its bits. The bits that 11.4 names no field for are 0, which is the model's choice (log 29).
R132, R133: the first record of an event is coded full; a later one as the signed 16-bit difference from the address
before it when that lies from -32768 to 32767, and full otherwise. -/
def Obligations.ItemBytesSumToZero : Prop :=
  ((∀ i : Item, byteSum i.bytes = 0) ∧
  (∀ d n t, (Item.burstOpen d n t).bytes.length = 7) ∧ (∀ n c, (Item.burstClose n c).bytes.length = 4) ∧
  (∀ h, (Item.eventHeader h).bytes.length = 16) ∧
  (∀ r o a, (Item.record r o a).bytes.length = 7 + (if a.isFull then 4 else 2) + (if r.latency.isSome then 1 else 0)
      + (if r.data.digest.isSome then 2 else 0) + (if r.data.firstBeat.isSome then 8 else 0)) ∧
  (∀ s t r k, (Item.notice (.skip s t r k)).bytes.length = 8) ∧
  (∀ t r f k, (Item.notice (.discard t r f k)).bytes.length = 8) ∧
  (∀ i st k, (Item.notice (.orphan i st k)).bytes.length = 6) ∧ (∀ f, (Item.status f).bytes.length = 17)) ∧
  (∀ i : Item,
    let two (w : Word) : List Byte := [w.extractLsb' 8 8, w.extractLsb' 0 8]
    let three (t : Tick) : List Byte := [t.extractLsb' 16 8, t.extractLsb' 8 8, t.extractLsb' 0 8]
    let four (a : Addr) : List Byte := [a.extractLsb' 24 8, a.extractLsb' 16 8, a.extractLsb' 8 8, a.extractLsb' 0 8]
    let bit (b : Bool) (n : Nat) : Nat := if b then 2 ^ n else 0
    let source (s : Source) : Nat := match s with
      | .command => 0
      | .lineA => 1
      | .lineB => 2
      | .matcher => 3
      | .fault => 4
    i.bytes.dropLast = match i with
    | .burstOpen device number tick => [0xA1, BitVec.ofNat 8 device.toNat, number] ++ three tick
    | .burstClose number events => [0xA2, number, BitVec.ofNat 8 events]
    | .eventHeader h =>
      [0xB1, h.tag, BitVec.ofNat 8 (source h.source + bit h.provisional 3 + bit h.confirmed 4 + bit h.limitReason 5
          + bit h.storeFullReason 6)]
        ++ three h.trigTick ++ three h.first ++ [BitVec.ofNat 8 h.span, BitVec.ofNat 8 h.recordCount]
        ++ two h.truncated ++ two h.missed
    | .record r offset form =>
      let status := match r.status with
        | .opened => 0
        | .okay => 1
        | .error => 2
        | .abandoned => 3
      let full := match form with
        | .full _ => true
        | .delta _ => false
      [0xB2, BitVec.ofNat 8 (bit (r.kind == .write) 0 + bit r.partialWrite 1 + bit r.mismatch 2 + 8 * status
          + bit full 5 + bit r.data.digest.isSome 6 + bit r.data.firstBeat.isSome 7),
        BitVec.ofNat 8 (r.id.toNat + 16 * r.matchFlags.toNat),
        BitVec.ofNat 8 ((r.len - 1) % 16 + 16 * offset.toNat)]
        ++ two r.seq
        ++ (match form with
            | .full a => four a
            | .delta d => two d)
        ++ r.latency.toList
        ++ (match r.data.digest with
            | none => []
            | some d => two d)
        ++ (match r.data.firstBeat with
            | none => []
            | some b => four (b.extractLsb' 32 32) ++ four (b.extractLsb' 0 32))
    | .notice (.skip src tag reason tick) =>
      [0xC1, BitVec.ofNat 8 (source src), tag, match reason with
        | .notRunning => 5
        | .tableFull => 6
        | .tagBusy => 7] ++ three tick
    | .notice (.discard tag reason freed tick) =>
      [0xC2, tag, match reason with
        | .cancel => 0
        | .timeout => 1, BitVec.ofNat 8 freed] ++ three tick
    | .notice (.orphan id status tick) =>
      [0xC3, BitVec.ofNat 8 (id.toNat + bit (status == .error) 4)] ++ three tick
    | .status f =>
      let state := match f.recState with
        | .off => 0
        | .run => 1
        | .drain => 2
      [0xD1, BitVec.ofNat 8 (f.device.toNat + 4 * state)] ++ three f.tick ++ two (BitVec.ofNat 16 f.windowCount)
        ++ two (BitVec.ofNat 16 f.storeFree) ++ [BitVec.ofNat 8 f.queueCount, f.reg1] ++ two f.value1
        ++ [f.reg2] ++ two f.value2) ∧
  ((∀ a : Addr, addrForm none a = .full a) ∧
  ∀ p a : Addr,
    (-32768 ≤ (a - p).toInt ∧ (a - p).toInt ≤ 32767 →
      addrForm (some p) a = .delta ((a - p).setWidth 16) ∧ p + ((a - p).setWidth 16).signExtend 32 = a) ∧
    (¬ (-32768 ≤ (a - p).toInt ∧ (a - p).toInt ≤ 32767) → addrForm (some p) a = .full a))

/-! ## The memory path -/

/-- R6, R7, R106, R112: outside RUN a request that arrives whole while no hold applies is appended to the OTT with link none
and to the request forward queue, takes no seq number and makes no entry. -/
def Obligations.RequestOutsideRunIsForwardedOnly : Prop :=
  ∀ (s : State) (r : Request), r.whole → requestOpen s → s.recState ≠ .run →
    exec (.requestTaken r.transfers) s = .next { s with
      ott := s.ott ++ [{ id := r.header.id,
                         expected := (match r.header.kind with | .read => r.header.len | .write => 0),
                         link := .none }],
      reqQueue := s.reqQueue ++ [r] }

/-- R5 to R8, R10, R11, R19, R112: in RUN a request that arrives whole, finds a place and fires no MATCH trigger takes the next
seq number and makes an OPEN entry at the tail, marked by the COLLECTING slots whose range holds the tick; its OTT item
links to the entry. The entry's place is a free one (which one is the model's, log 13). -/
def Obligations.RequestInRunMakesAnEntry : Prop :=
  ∀ (s : State) (r : Request), r.whole → requestOpen s → s.recState = .run → s.window.length < 512 →
    matchFires s.regs r.header = false →
    s.freePlace < 512 ∧ (∀ e ∈ s.window, e.place ≠ s.freePlace) ∧
    exec (.requestTaken r.transfers) s = .next { s with
      window := s.window ++ [{
        place := s.freePlace, seq := s.seq, reqTick := s.tick, kind := r.header.kind, id := r.header.id,
        addr := r.header.addr, len := r.header.len,
        partialWrite := (match r.header.kind with
          | .read => false
          | .write => r.beats.any (fun b => b.enables != 0xFF)),
        matchFlags := outcomes s.regs.units r.header, response := none,
        data := (match r.header.kind with
          | .read => noData
          | .write => dataPart (captureDepth s.regs.capture) (r.beats.map maskedBeat)),
        marks := s.collectors s.tick }],
      seq := s.seq + 1,
      ott := s.ott ++ [{ id := r.header.id,
                         expected := (match r.header.kind with | .read => r.header.len | .write => 0),
                         link := .entry s.seq s.freePlace }],
      reqQueue := s.reqQueue ++ [r] }

/-- R6, R13, R73, R112: in RUN with the window full under DROP a request that fires no MATCH trigger gets link none, uses a
seq number, counts in WINDOW_DROPS, sets the WINDOW_DROP flag and adds 1 to the missed count of every COLLECTING slot whose
range holds the tick. -/
def Obligations.RequestDroppedOnAFullWindow : Prop :=
  ∀ (s : State) (r : Request), r.whole → requestOpen s → s.recState = .run → 512 ≤ s.window.length →
    matchFires s.regs r.header = false →
    exec (.requestTaken r.transfers) s = .next { s with
      seq := s.seq + 1,
      ott := s.ott ++ [{ id := r.header.id,
                         expected := (match r.header.kind with | .read => r.header.len | .write => 0),
                         link := .none }],
      slots := s.slots.map (fun slot => slot.map (fun l =>
        if l.collects s.tick then { l with event := { l.event with missed := satAdd l.event.missed 1 } } else l)),
      counters := { s.counters with windowDrops := satInc s.counters.windowDrops }, flags := s.flags ||| 0x0040,
      reqQueue := s.reqQueue ++ [r] }

/-- R106: the header of a WRITE alone puts it in assembly; its beats are then accepted whatever hold but RESET applies, and
the beat that brings the count to the length takes it with the state of that moment. -/
def Obligations.WriteInAssemblyRunsToItsTaking : Prop :=
  ∀ (s : State),
    (∀ h, requestOpen s → h.kind = .write →
      exec (.requestTaken [.header h]) s = .next { s with uqAssembly := some ⟨h, []⟩ }) ∧
    (∀ r b, s.uqAssembly = some r → s.rst = false → s.mrst = false → r.beats.length + 1 < r.header.len →
      exec (.requestTaken [.beat b]) s = .next { s with uqAssembly := some ⟨r.header, r.beats ++ [b]⟩ }) ∧
    (∀ r b, s.uqAssembly = some r → s.rst = false → s.mrst = false → r.header.len ≤ r.beats.length + 1 →
      exec (.requestTaken [.beat b]) s =
        .next (({ s with uqAssembly := none } : State).takeRequest ⟨r.header, r.beats ++ [b]⟩))

/-- R107, R110, R116, R122, R123: a header offered while a hold reason applies waits, and so does every transfer under RESET; a
response's first transfer waits while its queue is full. What waits changes nothing.
R109, R110: the head of a forward queue is passed and leaves it. That passing from an empty queue changes nothing is the
model's choice (log 7). -/
def Obligations.HeldTransfersWaitAndHeadsPass : Prop :=
  (∀ (s : State),
    (∀ ts, s.uqAssembly = none → (4 ≤ s.reqQueue.length ∨ 32 ≤ s.ott.length ∨ s.rst = true ∨ s.mrst = true ∨
        (s.recState = .run ∧ s.regs.capture.getLsbD 2 = false ∧ 512 ≤ s.window.length) ∨
        (s.recState = .run ∧ s.regs.throttleMark ≠ 0 ∧ s.freeSlots < s.regs.throttleMark.toNat ∧
          s.suspended = false)) →
      exec (.requestTaken ts) s = .next s) ∧
    (∀ ts, (s.rst = true ∨ s.mrst = true) → exec (.requestTaken ts) s = .next s) ∧
    (∀ ts, (s.rst = true ∨ s.mrst = true ∨ (s.mpAssembly = [] ∧ 4 ≤ s.respQueue.length)) →
      exec (.responseTaken ts) s = .next s)) ∧
  (∀ (s : State),
    (∀ r rest, s.reqQueue = r :: rest → exec .requestPassed s = .next { s with reqQueue := rest }) ∧
    (s.reqQueue = [] → exec .requestPassed s = .next s) ∧
    (∀ ts rest, s.respQueue = ts :: rest → exec .responsePassed s = .next { s with respQueue := rest }) ∧
    (s.respQueue = [] → exec .responsePassed s = .next s))

/-- R14, R107, R113, R115: a response that arrives whole is paired with the oldest OTT item of its ID, which is removed. An
entry link fills the entry with the status, the latency held at 255, the mismatch flag and, for a READ, the data part; an
EXPIRED link counts in LATE_RESPONSES; a link of none does nothing more. Then the response is queued. While the
last tick's expiry is owed no latency exceeds LATENCY (R15, log 5). -/
def Obligations.ResponsePairsWithTheOldestOfItsId : Prop :=
  ∀ (s : State) (ts : List RespTransfer) (older newer : List OttItem) (item : OttItem),
    wholeResponse ts → responseOpen s → noFault s ts →
    s.ott = older ++ item :: newer → (∀ i ∈ older, i.id ≠ respId ts) → item.id = respId ts →
    (∀ q p, item.link = .entry q p → exec (.responseTaken ts) s = .next { s with
      ott := older ++ newer,
      window := s.window.map (fun e => if e.seq = q ∧ e.place = p then { e with
          response := some (.answered (respStatus ts) (BitVec.ofNat 8 (min 255
              (if s.owed.horizon then min s.regs.latency.toNat (s.tick - e.reqTick).toNat
               else (s.tick - e.reqTick).toNat)))
            (decide ((readBeats ts).length ≠ item.expected))),
          data := (match e.kind with
            | .read => readData (captureDepth s.regs.capture) (readBeats ts)
            | .write => e.data) } else e),
      respQueue := s.respQueue ++ [ts] }) ∧
    (item.link = .expired → exec (.responseTaken ts) s = .next { s with
      ott := older ++ newer,
      counters := { s.counters with lateResponses := satInc s.counters.lateResponses },
      respQueue := s.respQueue ++ [ts] }) ∧
    (item.link = .none → exec (.responseTaken ts) s = .next { s with
      ott := older ++ newer, respQueue := s.respQueue ++ [ts] })

/-- R114: a response for whose ID the OTT holds no item counts in ORPHANS, sets the ORPHAN flag, offers an ORPHAN notice with its
ID, its status and the tick, and is queued upstream. -/
def Obligations.OrphanIsCountedNoticedAndForwarded : Prop :=
  ∀ (s : State) (ts : List RespTransfer), wholeResponse ts → responseOpen s → noFault s ts →
    (∀ i ∈ s.ott, i.id ≠ respId ts) →
    exec (.responseTaken ts) s = .next { ({ s with
        counters := { s.counters with orphans := satInc s.counters.orphans }, flags := s.flags ||| 0x0004 } : State).notify
      (.orphan (respId ts) (respStatus ts) s.tick) with respQueue := s.respQueue ++ [ts] }

/-- R29, R93, R96, R112: a request that fires does so after its entry's creation or its drop: the MATCH trigger arrives with the
request's tick as trigger tick, its first tick pre ticks before it, and MATCH_CFG's span and provisional setting; then the
request enters the forward queue.
R28, R99: an ERROR response taken in RUN with FAULT_CFG enabled fires a FAULT trigger after its pairing and before it is
queued: trigger tick now, first tick one LATENCY back, FAULT_CFG's span and provisional setting. -/
def Obligations.MatchAndFaultTriggersArrive : Prop :=
  (∀ (s : State) (r : Request), r.whole → requestOpen s → s.recState = .run → matchFires s.regs r.header = true →
    let recorded := if s.window.length < 512 then s.createEntry r else s.dropRequest r
    exec (.requestTaken r.transfers) s = .next { recorded.arrive {
        source := .matcher, tag := 255, trigTick := s.tick,
        first := s.tick - (s.regs.matchCfg.extractLsb' 8 3).setWidth 24,
        span := (s.regs.matchCfg.extractLsb' 0 4).toNat, provisional := s.regs.matchCfg.getLsbD 4 } with
      reqQueue := s.reqQueue ++ [r] }) ∧
  (∀ (s : State) (ts : List RespTransfer), wholeResponse ts → responseOpen s →
    s.recState = .run → respStatus ts = .error → s.regs.faultCfg.getLsbD 5 = true →
    exec (.responseTaken ts) s = .next { (s.pair ts).arrive {
        source := .fault, tag := 255, trigTick := s.tick, first := s.tick - s.regs.latency.setWidth 24,
        span := (s.regs.faultCfg.extractLsb' 0 4).toNat, provisional := s.regs.faultCfg.getLsbD 4 } with
      respQueue := s.respQueue ++ [ts] })

/-- R23, R121, R122: the first assertion of MRST discards what is in assembly and in the forward queues, empties the OTT and
closes every OPEN entry as ABANDONED; a further assertion changes nothing; its release ends the RESET reason. -/
def Obligations.MrstAbandonsThePath : Prop :=
  ∀ (s : State),
    (s.mrst = false → exec .mrstAssert s = .next { s with
      mrst := true, uqAssembly := none, mpAssembly := [], reqQueue := [], respQueue := [], ott := [],
      window := s.window.map (fun e =>
        if e.response = none then { e with response := some .abandoned } else e) }) ∧
    (s.mrst = true → exec .mrstAssert s = .next s) ∧
    exec .mrstRelease s = .next { s with mrst := false }

/-- R24, R49, R66, R88, R104, R123, R149, R158, R184: RST_N puts every block in its reset state and leaves MRST, the forward queues
and what is in assembly; a link frame in progress is lost. The device number, the line levels and the closed-link mark that the
state shows while RST_N is asserted are the model's (log 11), and CS_N keeps its level (log 15).
R45, R46, R158: at its release the device number and the line levels are sampled, and CS_N low closes the link until it rises. A
release with no reset asserted changes nothing, which is the model's choice (log 7). -/
def Obligations.DeviceResetAndItsRelease : Prop :=
  ∀ (s : State),
    exec .rstNAssert s = .next { State.reset with
      rst := true, mrst := s.mrst, csLow := s.csLow, reqQueue := s.reqQueue, respQueue := s.respQueue,
      uqAssembly := s.uqAssembly, mpAssembly := s.mpAssembly, pending := s.pending } ∧
    (∀ d a b cs, s.rst = true → exec (.rstNRelease d a b cs) s = .next { s with
      rst := false, devId := d, lineA := a, lineB := b, csIgnore := cs, csLow := cs }) ∧
    (∀ d a b cs, s.rst = false → exec (.rstNRelease d a b cs) s = .next s)

/-- R1, R45, R127, R158: while RST_N is asserted no tick acts and no line is sampled; and while the link is closed, by RST_N or by
CS_N low since its release, no frame is taken. The rising of CS_N opens the link and counts nothing. -/
def Obligations.ResetAndTheClosedLinkTakeNothing : Prop :=
  ∀ (s : State),
    (s.rst = true → (∀ o, exec (.tick o) s = .next s) ∧ exec .horizonAdvance s = .next s ∧
      exec .decisionDeadline s = .next s ∧ (∀ l b, exec (.lineEdge l b) s = .next s) ∧
      exec .csNRisesAfterRelease s = .next s) ∧
    (∀ c, isLinkFrame c = true → (s.rst = true ∨ s.csIgnore = true) → exec c s = .next s) ∧
    (s.rst = false → exec .csNRisesAfterRelease s = .next { s with
      csIgnore := false, csLow := false, frame := [] })

/-! ## Triggers -/

/-- R45: a sample sets the line's level; a high sample after a low one on an enabled line is an arrival of that line's source
with the tick, the past range and the line's span and provisional setting. -/
def Obligations.LineEdgeArrives : Prop :=
  ∀ (s : State), s.rst = false →
    (s.lineA = false → s.regs.lineACfg.getLsbD 5 = true →
      exec (.lineEdge .trgA true) s = .next (({ s with lineA := true } : State).arrive {
        source := .lineA, tag := 255, trigTick := s.tick, first := s.tick - s.regs.latency.setWidth 24,
        span := (s.regs.lineACfg.extractLsb' 0 4).toNat, provisional := s.regs.lineACfg.getLsbD 4 })) ∧
    (s.lineB = false → s.regs.lineBCfg.getLsbD 5 = true →
      exec (.lineEdge .trgB true) s = .next (({ s with lineB := true } : State).arrive {
        source := .lineB, tag := 255, trigTick := s.tick, first := s.tick - s.regs.latency.setWidth 24,
        span := (s.regs.lineBCfg.extractLsb' 0 4).toNat, provisional := s.regs.lineBCfg.getLsbD 4 })) ∧
    (∀ b, (b = false ∨ s.lineA = true ∨ s.regs.lineACfg.getLsbD 5 = false) →
      exec (.lineEdge .trgA b) s = .next { s with lineA := b }) ∧
    (∀ b, (b = false ∨ s.lineB = true ∨ s.regs.lineBCfg.getLsbD 5 = false) →
      exec (.lineEdge .trgB b) s = .next { s with lineB := b })

/-- R32 to R36: an arrival meets the checks in order. Outside RUN a line edge is ignored in OFF, and COMMAND and line triggers
are refused with NOT_RUNNING otherwise; a COMMAND whose tag is held is refused with TAG_BUSY; a MATCH or FAULT covered by a
COLLECTING entry of its source is merged and counted; with no slot FREE the refusal is TABLE_FULL. A refusal counts in
SKIPPED, sets SKIP and offers a SKIP notice with the command's tag, or 255. -/
def Obligations.ArrivalTurnedAwayInOrder : Prop :=
  ∀ (s : State) (a : Arrival),
    let refusal (why : RefuseReason) : State := ({ s with
      counters := { s.counters with skipped := satInc s.counters.skipped }, flags := s.flags ||| 0x0001 } : State).notify
        (.skip a.source (if a.source = .command then a.tag else 255) why s.tick)
    let held := ∃ k l, s.slot k = some l ∧ l.tag = a.tag
    let covered := ∃ k l, s.slot k = some l ∧ l.source = a.source ∧ l.state = .collecting ∧
      inRange a.first l.first l.last = true
    let full := ∀ k, s.slot k ≠ none
    ((a.source = .lineA ∨ a.source = .lineB) → s.recState = .off → s.arrive a = s) ∧
    ((a.source = .lineA ∨ a.source = .lineB) → s.recState = .drain → s.arrive a = refusal .notRunning) ∧
    (a.source = .command → s.recState ≠ .run → s.arrive a = refusal .notRunning) ∧
    (a.source = .command → s.recState = .run → held → s.arrive a = refusal .tagBusy) ∧
    (a.source = .command → s.recState = .run → ¬ held → full → s.arrive a = refusal .tableFull) ∧
    ((a.source = .lineA ∨ a.source = .lineB) → s.recState = .run → full → s.arrive a = refusal .tableFull) ∧
    ((a.source = .matcher ∨ a.source = .fault) → covered →
      s.arrive a = { s with counters := { s.counters with merged := satInc s.counters.merged } }) ∧
    ((a.source = .matcher ∨ a.source = .fault) → ¬ covered → full → s.arrive a = refusal .tableFull)

/-- R20, R31, R37: an arrival that no check turns away takes the lowest FREE slot k with a fresh COLLECTING entry and an empty
event; the window's entries in its range get the mark of k; a device tag is taken for every source but COMMAND and moves the
counter past it. -/
def Obligations.ArrivalAdmittedIntoTheLowestFreeSlot : Prop :=
  ∀ (s : State) (a : Arrival) (k : Slot),
    s.slot k = none → (∀ j, j < k → s.slot j ≠ none) →
    ((a.source = .command ∧ s.recState = .run ∧ (∀ j l, s.slot j = some l → l.tag ≠ a.tag)) ∨
      ((a.source = .lineA ∨ a.source = .lineB) ∧ s.recState = .run) ∨
      ((a.source = .matcher ∨ a.source = .fault) ∧
        ∀ j l, s.slot j = some l → l.source = a.source → l.state = .collecting →
          inRange a.first l.first l.last = false)) →
    let tag := if a.source = .command then a.tag else s.deviceTagFor
    let last := a.first + BitVec.ofNat 24 a.span - 1
    s.arrive a = { s with
      deviceTag := if a.source = .command then s.deviceTag else if tag = 255 then 192 else tag + 1,
      slots := s.slots.set k.val (some {
        tag := tag, source := a.source, trigTick := a.trigTick, first := a.first, last := last, span := a.span,
        provisional := a.provisional, confirmed := false, state := .collecting, closeTick := none,
        event := { records := [], truncated := 0, limitReason := false, storeFullReason := false, missed := 0 } })
        k.isLt,
      window := s.window.map (fun e => if inRange e.reqTick a.first last then e.mark k else e) }

/-- R31: the device tag an admission takes is the first, from the counter's value upward and from 255 to 192, that no live
entry holds, and it comes within 17 steps. -/
def Obligations.DeviceTagIsTheNextFreeOne : Prop :=
  ∀ (s : State), Config.firstDeviceTag ≤ s.deviceTag →
    let candidate (n : Nat) : Tag := BitVec.ofNat 8 (192 + (s.deviceTag.toNat - 192 + n) % 64)
    ∃ n, n < 17 ∧ s.deviceTagFor = candidate n ∧ (∀ k l, s.slot k = some l → l.tag ≠ candidate n) ∧
      ∀ m, m < n → ∃ k l, s.slot k = some l ∧ l.tag = candidate m

/-- R27, R28, R30, R35, R162: a TRIGGER with a bad argument is answered BAD_ARG and does nothing else; any other is a COMMAND
arrival of this tick with the past range, and the table's decision is its status. -/
def Obligations.TriggerCommandArrives : Prop :=
  ∀ (s : State) (tag : Tag) (control : Byte), s.rst = false → s.csIgnore = false →
    let span := (control.extractLsb' 0 4).toNat
    let good := tag < 192 ∧ 1 ≤ span ∧ span ≤ 8 ∧ control.extractLsb' 5 3 = 0
    (¬ good → exec (.trigger tag control) s = .next { s with
        csLow := true, frame := linkFrame (.trigger tag control), answer := some ⟨.badArg, []⟩ }) ∧
    (good → ∃ st, exec (.trigger tag control) s = .next { s.arrive {
          source := .command, tag := tag, trigTick := s.tick, first := s.tick - s.regs.latency.setWidth 24,
          span := span, provisional := control.getLsbD 4 } with
              csLow := true, frame := linkFrame (.trigger tag control), answer := some ⟨st, []⟩ } ∧
      (s.recState ≠ .run → st = .notRunning) ∧
      (s.recState = .run → (∃ k l, s.slot k = some l ∧ l.tag = tag) → st = .tagBusy) ∧
      (s.recState = .run → (∀ k l, s.slot k = some l → l.tag ≠ tag) → (∀ k, s.slot k ≠ none) → st = .tableFull) ∧
      (s.recState = .run → (∀ k l, s.slot k = some l → l.tag ≠ tag) → (∃ k, s.slot k = none) → st = .ok))

/-- R55, R56, R57, R163: CONFIRM by the first row of R55 that applies to the tag. A COLLECTING provisional entry is marked
confirmed and nothing else; a HELD one is confirmed and hands its event over where the Event Queue has a place, else
it parks at the tail of the parking list. -/
def Obligations.ConfirmByTheEntryOfTheTag : Prop :=
  ∀ (s : State) (tag : Tag), s.rst = false → s.csIgnore = false → TagsSound s →
    ((∀ k l, s.slot k = some l → l.tag ≠ tag) →
      exec (.confirm tag) s = .next { s with
          csLow := true, frame := linkFrame (.confirm tag), answer := some ⟨.noTag, []⟩ }) ∧
    (∀ k l, s.slot k = some l → l.tag = tag →
      (l.provisional = false → exec (.confirm tag) s = .next { s with
          csLow := true, frame := linkFrame (.confirm tag), answer := some ⟨.notProvisional, []⟩ }) ∧
      (l.provisional = true → (l.confirmed = true ∨ l.state = .parked) →
        exec (.confirm tag) s = .next { s with
            csLow := true, frame := linkFrame (.confirm tag), answer := some ⟨.ok, []⟩ }) ∧
      (l.provisional = true → l.confirmed = false → l.state = .collecting →
        exec (.confirm tag) s = .next { s.setSlot k (some { l with confirmed := true }) with
          csLow := true, frame := linkFrame (.confirm tag), answer := some ⟨.ok, []⟩ }) ∧
      (∀ d, l.provisional = true → l.confirmed = false → l.state = .held d → s.queue.length < 32 →
        exec (.confirm tag) s = .next {
          ((({ s with queue := s.queue ++ [({ l with confirmed := true } : Live).completed] } : State).setSlot k
            none).rechoose).drainTest with
                csLow := true, frame := linkFrame (.confirm tag), answer := some ⟨.ok, []⟩ }) ∧
      (∀ d, l.provisional = true → l.confirmed = false → l.state = .held d → 32 ≤ s.queue.length →
        exec (.confirm tag) s = .next { ({ s with parking := s.parking ++ [k] } : State).setSlot k
            (some { l with confirmed := true, state := .parked }) with
                csLow := true, frame := linkFrame (.confirm tag), answer := some ⟨.ok, []⟩ }))

/-- R59, R60, R163: CANCEL of a tag nobody holds is NO_TAG, of a PARKED entry TOO_LATE, each changing nothing; of a COLLECTING
or HELD entry it is the discard with reason CANCEL. R47, R163: QUERY_TAG is answered OK with the state and record count of the
entry that holds the tag, FREE and 0 when none does, and changes no state. -/
def Obligations.CancelAndQueryByTheEntryOfTheTag : Prop :=
  (∀ (s : State) (tag : Tag), s.rst = false → s.csIgnore = false → TagsSound s →
    ((∀ k l, s.slot k = some l → l.tag ≠ tag) →
      exec (.cancel tag) s = .next { s with
          csLow := true, frame := linkFrame (.cancel tag), answer := some ⟨.noTag, []⟩ }) ∧
    (∀ k l, s.slot k = some l → l.tag = tag →
      (l.state = .parked → exec (.cancel tag) s = .next { s with
          csLow := true, frame := linkFrame (.cancel tag), answer := some ⟨.tooLate, []⟩ }) ∧
      (l.state ≠ .parked →
        exec (.cancel tag) s = .next { s.discardReported k .cancel with
            csLow := true, frame := linkFrame (.cancel tag), answer := some ⟨.ok, []⟩ }))) ∧
  (∀ (s : State) (tag : Tag), s.rst = false → s.csIgnore = false → TagsSound s →
    ((∀ k l, s.slot k = some l → l.tag ≠ tag) →
      exec (.queryTag tag) s = .next { s with
          csLow := true, frame := linkFrame (.queryTag tag), answer := some ⟨.ok, [0, 0]⟩ }) ∧
    (∀ k l, s.slot k = some l → l.tag = tag →
      exec (.queryTag tag) s = .next { s with csLow := true, frame := linkFrame (.queryTag tag), answer := some ⟨.ok,
        [(match l.state with
          | .collecting => 1
          | .held _ => 2
          | .parked => 3), BitVec.ofNat 8 l.event.records.length]⟩ }))

/-! ## Registers -/

/-- R159: NOP is answered OK and changes nothing. READ_REG of a number above 62 is answered BAD_ARG with the value 0; of any
other register but the two of R161 it is answered OK with the register's value, high byte first, and changes nothing.
R185, R186, R187, R188, 11.1, 11.2: in every state each register reads what table 11.1 names for its number: PART_CODE 0x1520, each
setting register the word last written, RUN_STATE, CUR_TICK_HI, CUR_TICK_LO, the live counts, the counters and FLAGS the state they
are views of. Data book 1.5: a counter goes up by one or by several and stays at 65535. -/
def Obligations.ReadRegReturnsTheRegister : Prop :=
  (∀ (s : State), s.rst = false → s.csIgnore = false →
    exec .nop s = .next { s with csLow := true, frame := linkFrame .nop, answer := some ⟨.ok, []⟩ } ∧
    (∀ n : Byte, 62 < n → exec (.readReg n) s = .next { s with
        csLow := true, frame := linkFrame (.readReg n), answer := some ⟨.badArg, [0, 0]⟩ }) ∧
    (∀ n : Byte, n ≤ 62 → n ≠ 43 → n ≠ 44 → exec (.readReg n) s = .next { s with
      csLow := true, frame := linkFrame (.readReg n),
      answer := some ⟨.ok, [(s.regValueAt n).extractLsb' 8 8, (s.regValueAt n).extractLsb' 0 8]⟩ })) ∧
  (∀ (s : State),
    let unit (k : Fin 4) : List Word :=
      let u := s.regs.units.get k
      [u.loH, u.loL, u.hiH, u.hiL, u.sel, u.idset]
    (List.range 63).map (fun n => s.regValueAt (BitVec.ofNat 8 n)) =
      [0x1520, s.regValueAt 1, s.regs.latency, s.regs.tickDiv, s.regs.capture, s.regs.maxRecords, s.regs.decision,
       s.regs.lineACfg, s.regs.lineBCfg, s.regs.faultCfg, s.regs.matchCfg, s.regs.matchTable]
      ++ unit 0 ++ unit 1 ++ unit 2 ++ unit 3
      ++ [s.regs.burstSize, s.regs.throttleMark, s.regs.throttleLimit, s.regs.noticeEn, s.regs.statusPeriod,
       s.regs.statusSel, s.regs.flagMask,
       (s.tick.extractLsb' 16 8).setWidth 16, s.tick.extractLsb' 0 16,
       BitVec.ofNat 16 s.window.length, BitVec.ofNat 16 s.ott.length, BitVec.ofNat 16 s.freeSlots,
       BitVec.ofNat 16 s.queue.length, BitVec.ofNat 16 (allSlots.countP (fun k => (s.slot k).isSome))]
      ++ [s.counters.skipped, s.counters.merged, s.counters.windowDrops, s.counters.lateResponses, s.counters.orphans,
       s.counters.truncatedRecords, s.counters.discardedEvents, s.counters.decisionTimeouts,
       s.counters.throttleTimeouts, s.counters.noticesLost, s.counters.linkErrors, s.counters.eventsSent, s.flags] ∧
    (s.regValueAt 1).extractLsb' 0 2 = (match s.recState with
      | .off => 0
      | .run => 1
      | .drain => 2) ∧
    ((s.regValueAt 1).getLsbD 2 = true ↔ 4 ≤ s.reqQueue.length) ∧
    ((s.regValueAt 1).getLsbD 3 = true ↔ 32 ≤ s.ott.length) ∧
    ((s.regValueAt 1).getLsbD 4 = true ↔
      s.recState = .run ∧ s.regs.capture.getLsbD 2 = false ∧ 512 ≤ s.window.length) ∧
    ((s.regValueAt 1).getLsbD 5 = s.throttleHold ∧ (s.throttleHold = true ↔ s.recState = .run ∧ s.regs.throttleMark ≠ 0 ∧
      s.freeSlots < s.regs.throttleMark.toNat ∧ s.suspended = false)) ∧
    ((s.regValueAt 1).getLsbD 6 = true ↔ s.rst = true ∨ s.mrst = true) ∧
    (s.regValueAt 1).getLsbD 7 = s.suspended ∧ (s.regValueAt 1).extractLsb' 8 8 = 0 ∧
    s.freeSlots = 1024 - ((allSlots.map s.heldBy).sum + (s.queue.map (fun e => e.records.length)).sum)) ∧
  (∀ (w : Word) (n : Nat),
    satInc w = (if w = 65535 then 65535 else w + 1) ∧ satAdd w n = BitVec.ofNat 16 (min 65535 (w.toNat + n)))

/-- R161: the read of CUR_TICK_HI returns the upper 8 bits of the tick number and captures the lower 16; the read of CUR_TICK_LO
returns the captured value and ends the capture, or the live lower 16 bits where no capture stands; and no other command but
RST_N reaches the capture. -/
def Obligations.TickNumberIsReadInTwoHalves : Prop :=
  ∀ (s : State),
    (s.rst = false → s.csIgnore = false →
      exec .curTickHiRead s = .next { s with
        capture := some (s.tick.extractLsb' 0 16),
        csLow := true, frame := linkFrame .curTickHiRead, answer := some ⟨.ok, [0, s.tick.extractLsb' 16 8]⟩ } ∧
      (∀ v, s.capture = some v → exec .curTickLoRead s = .next { s with
        capture := none,
        csLow := true, frame := linkFrame .curTickLoRead,
        answer := some ⟨.ok, [v.extractLsb' 8 8, v.extractLsb' 0 8]⟩ }) ∧
      (s.capture = none → exec .curTickLoRead s = .next { s with
        csLow := true, frame := linkFrame .curTickLoRead,
        answer := some ⟨.ok, [s.tick.extractLsb' 8 8, s.tick.extractLsb' 0 8]⟩ }) ∧
      exec (.readReg 43) s = exec .curTickHiRead s ∧ exec (.readReg 44) s = exec .curTickLoRead s) ∧
    (∀ c t, c ≠ .curTickHiRead → c ≠ .curTickLoRead → c ≠ .readReg 43 → c ≠ .readReg 44 → c ≠ .rstNAssert →
      exec c s = .next t → t.capture = s.capture) ∧
    (∀ t, exec .rstNAssert s = .next t → t.capture = none)

/-- R160, R76 and the ranges of R1, R3, R9, R44, R52, R76, R89, R95, R98, R118, R119, R140, R142, R146, R170: a WRITE_REG is
decided by the rows of R160 in order, and a refused write changes no setting and nothing else but the answer. One
answered OK replaces the whole register and no other setting; only LATENCY moves the horizon, and only BURST_SIZE and
STATUS_PERIOD re-make the framer's choice. -/
def Obligations.WriteRegIsDecidedInOrder : Prop :=
  ∀ (s : State) (n : Byte) (v : Word), s.rst = false → s.csIgnore = false →
    let refused (st : Status) := exec (.writeReg n v) s = .next { s with
        csLow := true, frame := linkFrame (.writeReg n v), answer := some ⟨st, []⟩ }
    let readOnly := n ≤ 1 ∨ (43 ≤ n ∧ n ≤ 62)
    let unitReg (k : Byte) := n = 12 + k ∨ n = 18 + k ∨ n = 24 + k ∨ n = 30 + k
    let span := v.extractLsb' 0 4
    let outside :=
      (n = 2 ∧ (v < 8 ∨ 1023 < v)) ∨ (n = 3 ∧ v = 0) ∨ (n = 4 ∧ 8 ≤ v) ∨ (n = 5 ∧ (v = 0 ∨ 255 < v)) ∨
      (n = 6 ∧ (v = 0 ∨ 4095 < v)) ∨
      ((n = 7 ∨ n = 8 ∨ n = 9) ∧ (span = 0 ∨ 8 < span ∨ v &&& 0xFFC0 ≠ 0)) ∨
      (n = 10 ∧ (span = 0 ∨ 8 < span ∨ v &&& 0xF8C0 ≠ 0 ∨
        (span.toNat - 1 < (v.extractLsb' 8 3).toNat))) ∨
      (unitReg 4 ∧ (v.extractLsb' 0 2 = 0 ∨ v &&& 0xFFF8 ≠ 0)) ∨
      (n = 36 ∧ (v = 0 ∨ 16 < v)) ∨ (n = 37 ∧ 1023 < v) ∨ (n = 38 ∧ v = 0) ∨ (n = 39 ∧ 7 < v) ∨
      (n = 41 ∧ (62 < v.extractLsb' 8 8 ∨ 62 < v.extractLsb' 0 8)) ∨ (n = 42 ∧ v &&& 0xFE00 ≠ 0)
    let locked := (n = 2 ∨ n = 3 ∨ n = 4) ∧ s.recState ≠ .off
    let stored := n = 5 ∧ (s.recState ≠ .off ∨ s.freeSlots ≠ 1024)
    (62 < n → refused .badArg) ∧
    (readOnly → refused .badArg) ∧
    (n ≤ 62 → ¬ readOnly → outside → refused .badArg) ∧
    (n ≤ 62 → ¬ readOnly → ¬ outside → (locked ∨ stored) → refused .busy) ∧
    (n ≤ 62 → ¬ readOnly → ¬ outside → ¬ locked → ¬ stored →
      ∃ g hz fr, exec (.writeReg n v) s = .next { s with
          regs := g, horizon := hz, framer := fr,
          csLow := true, frame := linkFrame (.writeReg n v), answer := some ⟨.ok, []⟩ } ∧
        (n ≠ 2 → hz = s.horizon) ∧ (n ≠ 36 → n ≠ 40 → fr = s.framer) ∧
        ({ s with regs := g } : State).regValueAt n = v ∧
        ∀ m, m ≤ 62 → m ≠ 1 → m ≠ n → ({ s with regs := g } : State).regValueAt m = s.regValueAt m)

/-- R3, R76, R118, R140, R143, R170: what each of the six writes that are rows of their own does when it is taken. LATENCY moves
the horizon at once; BURST_SIZE and STATUS_PERIOD re-make the framer's choice; the others change their setting alone.
The six write rows are WRITE_REG of their registers (R160, log 26), so a refused one is answered as WRITE_REG is. -/
def Obligations.OwnRowWritesApplyAtOnce : Prop :=
  (∀ (s : State) (v : Word), s.rst = false → s.csIgnore = false →
    (8 ≤ v → v ≤ 1023 → s.recState = .off → exec (.latencyWrite v) s = .next { s with
      regs := { s.regs with latency := v }, horizon := s.tick - v.setWidth 24 - 1,
      csLow := true, frame := linkFrame (.latencyWrite v), answer := some ⟨.ok, []⟩ }) ∧
    (1 ≤ v → v ≤ 255 → s.recState = .off → s.freeSlots = 1024 → exec (.maxRecordsWrite v) s = .next { s with
      regs := { s.regs with maxRecords := v },
      csLow := true, frame := linkFrame (.maxRecordsWrite v), answer := some ⟨.ok, []⟩ }) ∧
    (v ≤ 1023 → exec (.throttleMarkWrite v) s = .next { s with
      regs := { s.regs with throttleMark := v },
      csLow := true, frame := linkFrame (.throttleMarkWrite v), answer := some ⟨.ok, []⟩ }) ∧
    (1 ≤ v → v ≤ 16 → exec (.burstSizeWrite v) s = .next { ({ s with
      regs := { s.regs with burstSize := v } } : State).rechoose with
          csLow := true, frame := linkFrame (.burstSizeWrite v), answer := some ⟨.ok, []⟩ }) ∧
    exec (.statusPeriodWrite v) s = .next { ({ s with
      regs := { s.regs with statusPeriod := v } } : State).rechoose with
          csLow := true, frame := linkFrame (.statusPeriodWrite v), answer := some ⟨.ok, []⟩ } ∧
    (v < 512 → exec (.flagMaskWrite v) s = .next { s with
      regs := { s.regs with flagMask := v },
      csLow := true, frame := linkFrame (.flagMaskWrite v), answer := some ⟨.ok, []⟩ })) ∧
  (∀ (s : State) (v : Word),
    exec (.latencyWrite v) s = exec (.writeReg 2 v) s ∧ exec (.maxRecordsWrite v) s = exec (.writeReg 5 v) s ∧
    exec (.burstSizeWrite v) s = exec (.writeReg 36 v) s ∧ exec (.throttleMarkWrite v) s = exec (.writeReg 37 v) s ∧
    exec (.statusPeriodWrite v) s = exec (.writeReg 40 v) s ∧ exec (.flagMaskWrite v) s = exec (.writeReg 42 v) s)

/-! ## Run control and flushing -/

/-- R164: START is answered OK in OFF, and the recorder is then in RUN; BUSY in RUN or DRAIN, with the state unchanged. STOP is
answered OK in every state; in RUN it moves the recorder to DRAIN (or, where nothing is left to settle, on to OFF in the same
act), and in OFF and DRAIN it changes nothing. The act of START sets the sequence counter to 0, ends a suspension, and the
throttle's count starts from 0 (R6, R120, R173, R183). -/
def Obligations.StartAndStop : Prop :=
  ∀ (s : State), s.rst = false → s.csIgnore = false →
    (s.recState = .off → exec .start s = .next { s with
      recState := .run, seq := 0, suspended := false, throttleCount := 0,
      csLow := true, frame := linkFrame .start, answer := some ⟨.ok, []⟩ }) ∧
    (s.recState ≠ .off → exec .start s = .next { s with
        csLow := true, frame := linkFrame .start, answer := some ⟨.busy, []⟩ }) ∧
    (s.recState = .run → (s.window ≠ [] ∨ ∃ k, s.slot k ≠ none) →
      exec .stop s = .next { s with
          recState := .drain, csLow := true, frame := linkFrame .stop, answer := some ⟨.ok, []⟩ }) ∧
    (s.recState = .run → s.window = [] → (∀ k, s.slot k = none) →
      exec .stop s = .next { s with
        recState := .off, flags := s.flags ||| 0x0100,
        csLow := true, frame := linkFrame .stop, answer := some ⟨.ok, []⟩ }) ∧
    (s.recState ≠ .run → exec .stop s = .next { s with
        csLow := true, frame := linkFrame .stop, answer := some ⟨.ok, []⟩ })

/-- R165, R180, R181: a selection byte with a bit outside the five is answered BAD_ARG and flushes nothing; any other is answered
OK and carries its selections out in the order WINDOW, TRIGGERS, EVENTS, NOTICES, COUNTERS, then tests the end of DRAIN once.
That the five rows of one selection are FLUSH of that selection is the model's reading of the table (log 19). -/
def Obligations.FlushCarriesOutItsSelections : Prop :=
  ∀ (s : State) (sel : Byte), s.rst = false → s.csIgnore = false →
    (sel.extractLsb' 5 3 ≠ 0 → exec (.flush sel) s = .next { s with
        csLow := true, frame := linkFrame (.flush sel), answer := some ⟨.badArg, []⟩ }) ∧
    (sel.extractLsb' 5 3 = 0 →
      let s1 := if sel.getLsbD 0 then s.flushWindow else s
      let s2 := if sel.getLsbD 1 then s1.flushTriggers else s1
      let s3 := if sel.getLsbD 2 then s2.flushEvents else s2
      let s4 := if sel.getLsbD 3 then s3.flushNotices else s3
      let s5 := if sel.getLsbD 4 then s4.flushCounters else s4
      exec (.flush sel) s = .next { s5.drainTest with
          csLow := true, frame := linkFrame (.flush sel), answer := some ⟨.ok, []⟩ }) ∧
    exec .flushWindow s = exec (.flush 0x01) s ∧ exec .flushTriggers s = exec (.flush 0x02) s ∧
    exec .flushEvents s = exec (.flush 0x04) s ∧ exec .flushNotices s = exec (.flush 0x08) s ∧
    exec .flushCounters s = exec (.flush 0x10) s

/-- R22, R73, R125: FLUSH WINDOW empties the window with no offer, sets every entry link in the OTT to none and adds to the
missed count of each COLLECTING event the number of flushed entries that carried its slot's mark. -/
def Obligations.FlushWindowCountsTheMarkedAsMissed : Prop :=
  ∀ (s : State), s.rst = false → s.csIgnore = false →
    exec .flushWindow s = .next { ({ s with
      window := [],
      ott := s.ott.map (fun i => match i.link with
        | .entry _ _ => { i with link := .none }
        | _ => i),
      slots := Vector.ofFn (fun k => (s.slot k).map (fun l =>
        if l.state = .collecting then { l with event := { l.event with
          missed := satAdd l.event.missed (s.window.filter (fun e => e.marks.contains k)).length } } else l)) } : State).drainTest
      with csLow := true, frame := linkFrame .flushWindow, answer := some ⟨.ok, []⟩ }

/-- R48, R87: FLUSH TRIGGERS makes every slot FREE, removes the marks of the COLLECTING ones, empties the parking list and frees
the records; a store left empty ends a suspension. No counter, flag or notice but DRAINED at the end of DRAIN. -/
def Obligations.FlushTriggersFreesTheTable : Prop :=
  ∀ (s : State), s.rst = false → s.csIgnore = false →
    exec .flushTriggers s = .next { ({ s with
      slots := Vector.replicate 16 none, parking := [],
      window := s.window.map (fun e => { e with
        marks := e.marks.filter (fun k => !(s.slot k).any (fun l => l.state == .collecting)) }),
      suspended := s.suspended && decide (s.queueRecords ≠ 0) } : State).drainTest with
          csLow := true, frame := linkFrame .flushTriggers, answer := some ⟨.ok, []⟩ }

/-- R82, R85: FLUSH EVENTS discards every event but the one in transmission and gives the freed places to the parking list in
order; the slots of the entries it serves become FREE and the rest of the table and the list stand. A store left empty
ends a suspension (R183), the framer chooses again (R148), the end of DRAIN is tested (R181), and nothing else changes. The premise
that the parking list is sound is an invariant of its own (a statement below). -/
def Obligations.FlushEventsServesTheParkingList : Prop :=
  ∀ (s : State), s.rst = false → s.csIgnore = false → ParkingSound s →
    let kept := if s.inTransmission then s.queue.take 1 else []
    let served := s.parking.take (32 - kept.length)
    let flushed : State := { s with
      queue := kept ++ served.filterMap (fun k => (s.slot k).map Live.completed),
      parking := s.parking.drop (32 - kept.length),
      slots := Vector.ofFn (fun k => if k ∈ served then none else s.slot k) }
    exec .flushEvents s = .next { flushed.storeChanged.rechoose.drainTest with
        csLow := true, frame := linkFrame .flushEvents, answer := some ⟨.ok, []⟩ }

/-- R148, R166: FLUSH NOTICES empties the Notice Queue but for a notice being sent, and the framer chooses again; FLUSH COUNTERS
sets the twelve counters to 0 and nothing else. The end of DRAIN is tested after either (R181). -/
def Obligations.FlushNoticesAndFlushCounters : Prop :=
  ∀ (s : State), s.rst = false → s.csIgnore = false →
    (∀ n, s.framer = .sending (.notice n) → exec .flushNotices s = .next { ({ s with
      notices := s.notices.take 1 } : State).drainTest with
          csLow := true, frame := linkFrame .flushNotices, answer := some ⟨.ok, []⟩ }) ∧
    ((∀ n, s.framer ≠ .sending (.notice n)) → exec .flushNotices s = .next { (({ s with
      notices := [] } : State).rechoose).drainTest with
          csLow := true, frame := linkFrame .flushNotices, answer := some ⟨.ok, []⟩ }) ∧
    (∀ c, Counters.zero.get c = 0) ∧
    exec .flushCounters s = .next { ({ s with counters := Counters.zero } : State).drainTest with
        csLow := true, frame := linkFrame .flushCounters, answer := some ⟨.ok, []⟩ }

/-! ## The control link's own commands -/

/-- R168, R171: TAKE_FLAGS is answered OK with the flag word, high byte first, and clears exactly the flags it shows; ATTN_N is
then high. One answered CHECK, or aborted, returns and clears nothing and sets the LINK flag. No command but TAKE_FLAGS and
RST_N clears a flag. -/
def Obligations.TakeFlagsReturnsAndClears : Prop :=
  (∀ (s : State), s.rst = false → s.csIgnore = false →
    exec .takeFlags s = .next { s with
      flags := 0,
      csLow := true, frame := linkFrame .takeFlags,
      answer := some ⟨.ok, [s.flags.extractLsb' 8 8, s.flags.extractLsb' 0 8]⟩ } ∧
    ({ s with flags := 0 } : State).attnLow = false ∧
    (FlagsLegal s → (s.attnLow = true ↔
      ∃ f : Flag, s.flagSet f = true ∧ s.regs.flagMask.getLsbD (flagIndex f) = true)) ∧
    (∀ check, ∃ t, exec (.badCheckByte [0x30, check]) s = .next t ∧ t.flags = s.flags ||| 0x0080 ∧
      t.answer = some ⟨.check, [0, 0]⟩) ∧
    (∀ bits, ∃ t, exec (.frameAbort bits) s = .next t ∧ t.flags = s.flags ||| 0x0080 ∧ t.answer = none)) ∧
  (∀ (s t : State) (c : Instr), c ≠ .takeFlags → c ≠ .rstNAssert → exec c s = .next t →
    s.flags &&& t.flags = s.flags)

/-- R153 to R157: a frame that fails its check, one with an unknown command byte and an aborted one each count in LINK_ERRORS
and set the LINK flag, and reach nothing else. CHECK returns as many zero bytes as its command byte names, UNKNOWN none, and
an aborted frame has no answer. -/
def Obligations.LinkErrorsReachNothingElse : Prop :=
  ∀ (s : State), s.rst = false → s.csIgnore = false →
    let errored : State := { s with
      counters := { s.counters with linkErrors := satInc s.counters.linkErrors }, flags := s.flags ||| 0x0080 }
    (∀ command more, exec (.badCheckByte (command :: more)) s = .next { errored with
      csLow := true, frame := linkFrame (.badCheckByte (command :: more)),
      answer := some ⟨.check, if command = 0x01 ∨ command = 0x13 ∨ command = 0x30 then [0, 0] else []⟩ }) ∧
    (∀ command, exec (.unknownCommand command) s = .next { errored with
        csLow := true, frame := linkFrame (.unknownCommand command), answer := some ⟨.unknown, []⟩ }) ∧
    (∀ bits, exec (.frameAbort bits) s = .next { errored with csLow := false, frame := [], answer := none })

/-- R151, R152, R153, R154, 11.3: a frame written for a well-formed link command is read as that command (as its FLUSH frame,
for the five rows of one selection, log 19), with every operand at every value; bytes after the check byte change nothing. On the
line a byte's bits go most significant first, every eighth bit completes a byte, and bits short of eight complete none.
R151, R156: within a frame MISO shows 0 until the check byte is complete, then the status byte with its value of R156 and the
returned data, then 0, each byte most significant bit first; outside a frame, and while the link is closed, it is not driven.
That a frame is one command, and that the frame stands until the next one, is the model's choice (log 15). -/
def Obligations.FramesAreReadAsWritten : Prop :=
  (∀ (i : Instr) (bytes after : List Byte), WellFormed i = true → encodeFrame i = some bytes →
    decodeFrame (bytes ++ after) = some (frameRow i) ∧ linkFrame i = bytes ∧
    ((∀ frame, i ≠ .badCheckByte frame) → byteSum bytes = 0)) ∧
  (∀ (bytes : List Byte) (short : List Bool), short.length < 8 →
    bytesOfBits (bitsOfBytes bytes ++ short) = bytes ∧ decodeBits (bitsOfBytes bytes ++ short) = decodeFrame bytes) ∧
  (∀ (b : Byte), bitsOfByte b = [b.getMsbD 0, b.getMsbD 1, b.getMsbD 2, b.getMsbD 3, b.getMsbD 4, b.getMsbD 5, b.getMsbD 6,
    b.getMsbD 7]) ∧
  (∀ (s : State),
    (∀ n, n < s.frame.length → s.misoByte n = 0) ∧
    (∀ st data, s.answer = some ⟨st, data⟩ →
      s.misoByte s.frame.length = (match st with
        | .ok => 0
        | .check => 1
        | .unknown => 2
        | .badArg => 3
        | .busy => 4
        | .notRunning => 5
        | .tableFull => 6
        | .tagBusy => 7
        | .noTag => 8
        | .notProvisional => 9
        | .tooLate => 10) ∧
      (∀ i d, data[i]? = some d → s.misoByte (s.frame.length + 1 + i) = d) ∧
      (∀ n, s.frame.length + 1 + data.length ≤ n → s.misoByte n = 0)) ∧
    (s.answer = none → ∀ n, s.misoByte n = 0) ∧
    (∀ n j, j < 8 → s.misoBit (8 * n + j) = (s.misoByte n).getMsbD j) ∧
    (s.misoDriven = true ↔ s.csLow = true ∧ s.rst = false ∧ s.csIgnore = false))

/-! ## Computations -/

/-- R90, R94, R96: a unit is true when the address lies in its bounds as unsigned numbers, the kind is selected and the ID is in
its set, reversed by invert; the request's length and data do not enter. The outcomes of units 0 to 3 count
1, 2, 4 and 8 in the index into MATCH_TABLE. -/
def Obligations.MatchUnitOutcome : Prop :=
  (∀ (u : MatchUnit) (h : ReqHeader),
    let holds := (u.loH ++ u.loL : BitVec 32).toNat ≤ h.addr.toNat ∧ h.addr.toNat ≤ (u.hiH ++ u.hiL : BitVec 32).toNat ∧
      (match h.kind with
        | .read => u.sel.getLsbD 0 = true
        | .write => u.sel.getLsbD 1 = true) ∧ u.idset.getLsbD h.id.toNat = true
    (u.sel.getLsbD 2 = false → (u.outcome h = true ↔ holds)) ∧
    (u.sel.getLsbD 2 = true → (u.outcome h = true ↔ ¬ holds))) ∧
  (∀ (units : Vector MatchUnit 4) (h : ReqHeader),
    (outcomes units h).toNat = (if (units.get 0).outcome h then 1 else 0) + (if (units.get 1).outcome h then 2 else 0)
      + (if (units.get 2).outcome h then 4 else 0) + (if (units.get 3).outcome h then 8 else 0)) ∧
  (∀ (g : Settings) (h : ReqHeader), matchFires g h = true ↔
    g.matchCfg.getLsbD 5 = true ∧ g.matchTable.getLsbD (outcomes g.units h).toNat = true)

/-- R10, R11: the digest is the exclusive-OR of the beats folded to 16 bits; a write byte whose enable is off is taken as zero, in
the digest and in the first beat; and the capture depth, CAPTURE bits 1 to 0 (0 NONE, 1 DIGEST, 2 FIRST, 3 BOTH), says which
parts are kept. A READ whose response carries no read beats keeps no data part. -/
def Obligations.DataPartByDepth : Prop :=
  (∀ (w : Word),
    (w.extractLsb' 0 2 = 0 → captureDepth w = .none) ∧ (w.extractLsb' 0 2 = 1 → captureDepth w = .digest) ∧
    (w.extractLsb' 0 2 = 2 → captureDepth w = .first) ∧ (w.extractLsb' 0 2 = 3 → captureDepth w = .both)) ∧
  (∀ (depth : Depth), readData depth [] = ⟨none, none⟩ ∧ noData = ⟨none, none⟩ ∧
    ∀ (b : Beat) (more : List Beat), readData depth (b :: more) = dataPart depth (b :: more)) ∧
  (∀ beats : List Beat,
    dataPart .none beats = ⟨none, none⟩ ∧ dataPart .digest beats = ⟨some (digestOf beats), none⟩ ∧
    dataPart .first beats = ⟨none, beats.head?⟩ ∧ dataPart .both beats = ⟨some (digestOf beats), beats.head?⟩) ∧
  (∀ (a b : List Beat), digestOf (a ++ b) = digestOf a ^^^ digestOf b) ∧
  (∀ x : Beat, digestOf [x] =
    x.extractLsb' 48 16 ^^^ x.extractLsb' 32 16 ^^^ x.extractLsb' 16 16 ^^^ x.extractLsb' 0 16) ∧
  (∀ (b : WriteBeat) (k : Nat), k < 8 →
    (maskedBeat b).extractLsb' (8 * k) 8 = if b.enables.getLsbD k then b.data.extractLsb' (8 * k) 8 else 0)

/-! ## Invariants -/

/-- The reset state is sound in every sense of Safety.lean. -/
def Obligations.ResetIsSound : Prop :=
  SettingsLegal State.reset ∧ FlagsLegal State.reset ∧ QueuesFit State.reset ∧ StoreFits State.reset ∧
  SuspensionSound State.reset ∧ OffIsEmpty State.reset ∧ DrainHasWork State.reset ∧ FrameSound State.reset ∧
  ParkingSound State.reset ∧ TagsSound State.reset ∧
  OfferStands State.reset ∧ LinksSound State.reset ∧ InTime State.reset ∧ MarksSound State.reset

/-- R160, R167, R186: every step leaves each setting within its range, and no flag bit set where no flag stands.
R4, R77, R109, R110, R111, R117, R144: every step keeps the queues within their places.
R151, R158: every step keeps the link's frame within CS_N's low level, and none where the link waits for CS_N to rise. -/
def Obligations.StepKeepsSettingsFlagsAndQueuesLegal : Prop :=
  ∀ s t : State, step s = .next t →
    (SettingsLegal s → SettingsLegal t) ∧ (FlagsLegal s → FlagsLegal t) ∧ (QueuesFit s → QueuesFit t) ∧
    (FrameSound s → FrameSound t)

/-- R67, R119, R182, R183: every step keeps the records within the record slots, and a suspension only over a store that holds one,
with the throttle's count at 0 while it stands. The premises are invariants of their own. -/
def Obligations.StepKeepsTheStoreSound : Prop :=
  ∀ s t : State, step s = .next t → StoreFits s →
    StoreFits t ∧ (SettingsLegal s → SuspensionSound s → SuspensionSound t)

/-- R7, R39, R173 to R177: every step keeps the part empty in OFF, and keeps DRAIN only while the window holds an entry or a
trigger entry is live: DRAIN ends at the removal that leaves both empty. -/
def Obligations.StepKeepsOffEmpty : Prop :=
  ∀ s t : State, step s = .next t → (OffIsEmpty s → OffIsEmpty t) ∧ (DrainHasWork s → DrainHasWork t)

/-- R42, R82: every step keeps the parking list the PARKED entries, each once, and no place of the Event Queue free while it
holds one. -/
def Obligations.StepKeepsParkingSound : Prop :=
  ∀ s t : State, step s = .next t → ParkingSound s → ParkingSound t

/-- R25, R30, R31: every step keeps the live tags distinct, the counter a device tag, and COMMAND tags below 192. -/
def Obligations.StepKeepsTagsSound : Prop :=
  ∀ s t : State, step s = .next t → TagsSound s → TagsSound t

/-- R79, R128, R129, R136: every step keeps what is offered or being sent there to be sent. -/
def Obligations.StepKeepsTheOfferStanding : Prop :=
  ∀ s t : State, step s = .next t → OfferStands s → OfferStands t

/-- R4, R8: every step keeps entry places distinct, and an entry OPEN exactly when one OTT item links to it, with no link to an
entry that has left. -/
def Obligations.StepKeepsLinksSound : Prop :=
  ∀ s t : State, step s = .next t → LinksSound s → LinksSound t

/-- R3, R4, R16, R20, R29: every step keeps the horizon at its value, every window entry's request tick later than the horizon
and not later than the tick number, and every COLLECTING entry's last tick later than the horizon and at most 7 ticks after the
tick number; a range's first tick may lie behind the horizon. The premises are invariants of their own (statements above). -/
def Obligations.StepKeepsTheWindowInTime : Prop :=
  ∀ s t : State, step s = .next t → SettingsLegal s → OffIsEmpty s → InTime s → InTime t

/-- R18, R19, R21: every step keeps each mark on an entry within the range of a COLLECTING slot. The premises are invariants
of their own (statements above). -/
def Obligations.StepKeepsMarksSound : Prop :=
  ∀ s t : State, step s = .next t →
    SettingsLegal s → OffIsEmpty s → ParkingSound s → InTime s → MarksSound s → MarksSound t
end

