-- ==== Sys2Proof/Laws/State.lean ====
section
/-! SUPPORT. What the plainest updates of the state leave and set, field by field, each by rfl. -/

namespace Sys2Proof.Machine

/-! ### raise -/

@[simp] theorem State.raise_rst (s : State) (f : Flag) : (s.raise f).rst = s.rst := rfl
@[simp] theorem State.raise_mrst (s : State) (f : Flag) : (s.raise f).mrst = s.mrst := rfl
@[simp] theorem State.raise_devId (s : State) (f : Flag) : (s.raise f).devId = s.devId := rfl
@[simp] theorem State.raise_lineA (s : State) (f : Flag) : (s.raise f).lineA = s.lineA := rfl
@[simp] theorem State.raise_lineB (s : State) (f : Flag) : (s.raise f).lineB = s.lineB := rfl
@[simp] theorem State.raise_csIgnore (s : State) (f : Flag) : (s.raise f).csIgnore = s.csIgnore := rfl
@[simp] theorem State.raise_csLow (s : State) (f : Flag) : (s.raise f).csLow = s.csLow := rfl
@[simp] theorem State.raise_frame (s : State) (f : Flag) : (s.raise f).frame = s.frame := rfl
@[simp] theorem State.raise_tick (s : State) (f : Flag) : (s.raise f).tick = s.tick := rfl
@[simp] theorem State.raise_periodCount (s : State) (f : Flag) : (s.raise f).periodCount = s.periodCount := rfl
@[simp] theorem State.raise_divInForce (s : State) (f : Flag) : (s.raise f).divInForce = s.divInForce := rfl
@[simp] theorem State.raise_owed (s : State) (f : Flag) : (s.raise f).owed = s.owed := rfl
@[simp] theorem State.raise_recState (s : State) (f : Flag) : (s.raise f).recState = s.recState := rfl
@[simp] theorem State.raise_suspended (s : State) (f : Flag) : (s.raise f).suspended = s.suspended := rfl
@[simp] theorem State.raise_regs (s : State) (f : Flag) : (s.raise f).regs = s.regs := rfl
@[simp] theorem State.raise_horizon (s : State) (f : Flag) : (s.raise f).horizon = s.horizon := rfl
@[simp] theorem State.raise_window (s : State) (f : Flag) : (s.raise f).window = s.window := rfl
@[simp] theorem State.raise_seq (s : State) (f : Flag) : (s.raise f).seq = s.seq := rfl
@[simp] theorem State.raise_slots (s : State) (f : Flag) : (s.raise f).slots = s.slots := rfl
@[simp] theorem State.raise_parking (s : State) (f : Flag) : (s.raise f).parking = s.parking := rfl
@[simp] theorem State.raise_deviceTag (s : State) (f : Flag) : (s.raise f).deviceTag = s.deviceTag := rfl
@[simp] theorem State.raise_queue (s : State) (f : Flag) : (s.raise f).queue = s.queue := rfl
@[simp] theorem State.raise_inTransmission (s : State) (f : Flag) : (s.raise f).inTransmission = s.inTransmission := rfl
@[simp] theorem State.raise_ott (s : State) (f : Flag) : (s.raise f).ott = s.ott := rfl
@[simp] theorem State.raise_reqQueue (s : State) (f : Flag) : (s.raise f).reqQueue = s.reqQueue := rfl
@[simp] theorem State.raise_respQueue (s : State) (f : Flag) : (s.raise f).respQueue = s.respQueue := rfl
@[simp] theorem State.raise_uqAssembly (s : State) (f : Flag) : (s.raise f).uqAssembly = s.uqAssembly := rfl
@[simp] theorem State.raise_mpAssembly (s : State) (f : Flag) : (s.raise f).mpAssembly = s.mpAssembly := rfl
@[simp] theorem State.raise_throttleCount (s : State) (f : Flag) : (s.raise f).throttleCount = s.throttleCount := rfl
@[simp] theorem State.raise_framer (s : State) (f : Flag) : (s.raise f).framer = s.framer := rfl
@[simp] theorem State.raise_restart (s : State) (f : Flag) : (s.raise f).restart = s.restart := rfl
@[simp] theorem State.raise_burst (s : State) (f : Flag) : (s.raise f).burst = s.burst := rfl
@[simp] theorem State.raise_burstNumber (s : State) (f : Flag) : (s.raise f).burstNumber = s.burstNumber := rfl
@[simp] theorem State.raise_prevAddr (s : State) (f : Flag) : (s.raise f).prevAddr = s.prevAddr := rfl
@[simp] theorem State.raise_statusTimer (s : State) (f : Flag) : (s.raise f).statusTimer = s.statusTimer := rfl
@[simp] theorem State.raise_notices (s : State) (f : Flag) : (s.raise f).notices = s.notices := rfl
@[simp] theorem State.raise_answer (s : State) (f : Flag) : (s.raise f).answer = s.answer := rfl
@[simp] theorem State.raise_capture (s : State) (f : Flag) : (s.raise f).capture = s.capture := rfl
@[simp] theorem State.raise_counters (s : State) (f : Flag) : (s.raise f).counters = s.counters := rfl
@[simp] theorem State.raise_pending (s : State) (f : Flag) : (s.raise f).pending = s.pending := rfl

/-! ### count -/

@[simp] theorem State.count_rst (s : State) (c : CounterName) : (s.count c).rst = s.rst := rfl
@[simp] theorem State.count_mrst (s : State) (c : CounterName) : (s.count c).mrst = s.mrst := rfl
@[simp] theorem State.count_devId (s : State) (c : CounterName) : (s.count c).devId = s.devId := rfl
@[simp] theorem State.count_lineA (s : State) (c : CounterName) : (s.count c).lineA = s.lineA := rfl
@[simp] theorem State.count_lineB (s : State) (c : CounterName) : (s.count c).lineB = s.lineB := rfl
@[simp] theorem State.count_csIgnore (s : State) (c : CounterName) : (s.count c).csIgnore = s.csIgnore := rfl
@[simp] theorem State.count_csLow (s : State) (c : CounterName) : (s.count c).csLow = s.csLow := rfl
@[simp] theorem State.count_frame (s : State) (c : CounterName) : (s.count c).frame = s.frame := rfl
@[simp] theorem State.count_tick (s : State) (c : CounterName) : (s.count c).tick = s.tick := rfl
@[simp] theorem State.count_periodCount (s : State) (c : CounterName) : (s.count c).periodCount = s.periodCount := rfl
@[simp] theorem State.count_divInForce (s : State) (c : CounterName) : (s.count c).divInForce = s.divInForce := rfl
@[simp] theorem State.count_owed (s : State) (c : CounterName) : (s.count c).owed = s.owed := rfl
@[simp] theorem State.count_recState (s : State) (c : CounterName) : (s.count c).recState = s.recState := rfl
@[simp] theorem State.count_suspended (s : State) (c : CounterName) : (s.count c).suspended = s.suspended := rfl
@[simp] theorem State.count_regs (s : State) (c : CounterName) : (s.count c).regs = s.regs := rfl
@[simp] theorem State.count_horizon (s : State) (c : CounterName) : (s.count c).horizon = s.horizon := rfl
@[simp] theorem State.count_window (s : State) (c : CounterName) : (s.count c).window = s.window := rfl
@[simp] theorem State.count_seq (s : State) (c : CounterName) : (s.count c).seq = s.seq := rfl
@[simp] theorem State.count_slots (s : State) (c : CounterName) : (s.count c).slots = s.slots := rfl
@[simp] theorem State.count_parking (s : State) (c : CounterName) : (s.count c).parking = s.parking := rfl
@[simp] theorem State.count_deviceTag (s : State) (c : CounterName) : (s.count c).deviceTag = s.deviceTag := rfl
@[simp] theorem State.count_queue (s : State) (c : CounterName) : (s.count c).queue = s.queue := rfl
@[simp] theorem State.count_inTransmission (s : State) (c : CounterName) : (s.count c).inTransmission = s.inTransmission := rfl
@[simp] theorem State.count_ott (s : State) (c : CounterName) : (s.count c).ott = s.ott := rfl
@[simp] theorem State.count_reqQueue (s : State) (c : CounterName) : (s.count c).reqQueue = s.reqQueue := rfl
@[simp] theorem State.count_respQueue (s : State) (c : CounterName) : (s.count c).respQueue = s.respQueue := rfl
@[simp] theorem State.count_uqAssembly (s : State) (c : CounterName) : (s.count c).uqAssembly = s.uqAssembly := rfl
@[simp] theorem State.count_mpAssembly (s : State) (c : CounterName) : (s.count c).mpAssembly = s.mpAssembly := rfl
@[simp] theorem State.count_throttleCount (s : State) (c : CounterName) : (s.count c).throttleCount = s.throttleCount := rfl
@[simp] theorem State.count_framer (s : State) (c : CounterName) : (s.count c).framer = s.framer := rfl
@[simp] theorem State.count_restart (s : State) (c : CounterName) : (s.count c).restart = s.restart := rfl
@[simp] theorem State.count_burst (s : State) (c : CounterName) : (s.count c).burst = s.burst := rfl
@[simp] theorem State.count_burstNumber (s : State) (c : CounterName) : (s.count c).burstNumber = s.burstNumber := rfl
@[simp] theorem State.count_prevAddr (s : State) (c : CounterName) : (s.count c).prevAddr = s.prevAddr := rfl
@[simp] theorem State.count_statusTimer (s : State) (c : CounterName) : (s.count c).statusTimer = s.statusTimer := rfl
@[simp] theorem State.count_notices (s : State) (c : CounterName) : (s.count c).notices = s.notices := rfl
@[simp] theorem State.count_answer (s : State) (c : CounterName) : (s.count c).answer = s.answer := rfl
@[simp] theorem State.count_capture (s : State) (c : CounterName) : (s.count c).capture = s.capture := rfl
@[simp] theorem State.count_flags (s : State) (c : CounterName) : (s.count c).flags = s.flags := rfl
@[simp] theorem State.count_pending (s : State) (c : CounterName) : (s.count c).pending = s.pending := rfl

/-! ### setSlot -/

@[simp] theorem State.setSlot_rst (s : State) (k : Slot) (l : Option Live) : (s.setSlot k l).rst = s.rst := rfl
@[simp] theorem State.setSlot_mrst (s : State) (k : Slot) (l : Option Live) : (s.setSlot k l).mrst = s.mrst := rfl
@[simp] theorem State.setSlot_devId (s : State) (k : Slot) (l : Option Live) : (s.setSlot k l).devId = s.devId := rfl
@[simp] theorem State.setSlot_lineA (s : State) (k : Slot) (l : Option Live) : (s.setSlot k l).lineA = s.lineA := rfl
@[simp] theorem State.setSlot_lineB (s : State) (k : Slot) (l : Option Live) : (s.setSlot k l).lineB = s.lineB := rfl
@[simp] theorem State.setSlot_csIgnore (s : State) (k : Slot) (l : Option Live) : (s.setSlot k l).csIgnore = s.csIgnore := rfl
@[simp] theorem State.setSlot_csLow (s : State) (k : Slot) (l : Option Live) : (s.setSlot k l).csLow = s.csLow := rfl
@[simp] theorem State.setSlot_frame (s : State) (k : Slot) (l : Option Live) : (s.setSlot k l).frame = s.frame := rfl
@[simp] theorem State.setSlot_tick (s : State) (k : Slot) (l : Option Live) : (s.setSlot k l).tick = s.tick := rfl
@[simp] theorem State.setSlot_periodCount (s : State) (k : Slot) (l : Option Live) : (s.setSlot k l).periodCount = s.periodCount := rfl
@[simp] theorem State.setSlot_divInForce (s : State) (k : Slot) (l : Option Live) : (s.setSlot k l).divInForce = s.divInForce := rfl
@[simp] theorem State.setSlot_owed (s : State) (k : Slot) (l : Option Live) : (s.setSlot k l).owed = s.owed := rfl
@[simp] theorem State.setSlot_recState (s : State) (k : Slot) (l : Option Live) : (s.setSlot k l).recState = s.recState := rfl
@[simp] theorem State.setSlot_suspended (s : State) (k : Slot) (l : Option Live) : (s.setSlot k l).suspended = s.suspended := rfl
@[simp] theorem State.setSlot_regs (s : State) (k : Slot) (l : Option Live) : (s.setSlot k l).regs = s.regs := rfl
@[simp] theorem State.setSlot_horizon (s : State) (k : Slot) (l : Option Live) : (s.setSlot k l).horizon = s.horizon := rfl
@[simp] theorem State.setSlot_window (s : State) (k : Slot) (l : Option Live) : (s.setSlot k l).window = s.window := rfl
@[simp] theorem State.setSlot_seq (s : State) (k : Slot) (l : Option Live) : (s.setSlot k l).seq = s.seq := rfl
@[simp] theorem State.setSlot_parking (s : State) (k : Slot) (l : Option Live) : (s.setSlot k l).parking = s.parking := rfl
@[simp] theorem State.setSlot_deviceTag (s : State) (k : Slot) (l : Option Live) : (s.setSlot k l).deviceTag = s.deviceTag := rfl
@[simp] theorem State.setSlot_queue (s : State) (k : Slot) (l : Option Live) : (s.setSlot k l).queue = s.queue := rfl
@[simp] theorem State.setSlot_inTransmission (s : State) (k : Slot) (l : Option Live) : (s.setSlot k l).inTransmission = s.inTransmission := rfl
@[simp] theorem State.setSlot_ott (s : State) (k : Slot) (l : Option Live) : (s.setSlot k l).ott = s.ott := rfl
@[simp] theorem State.setSlot_reqQueue (s : State) (k : Slot) (l : Option Live) : (s.setSlot k l).reqQueue = s.reqQueue := rfl
@[simp] theorem State.setSlot_respQueue (s : State) (k : Slot) (l : Option Live) : (s.setSlot k l).respQueue = s.respQueue := rfl
@[simp] theorem State.setSlot_uqAssembly (s : State) (k : Slot) (l : Option Live) : (s.setSlot k l).uqAssembly = s.uqAssembly := rfl
@[simp] theorem State.setSlot_mpAssembly (s : State) (k : Slot) (l : Option Live) : (s.setSlot k l).mpAssembly = s.mpAssembly := rfl
@[simp] theorem State.setSlot_throttleCount (s : State) (k : Slot) (l : Option Live) : (s.setSlot k l).throttleCount = s.throttleCount := rfl
@[simp] theorem State.setSlot_framer (s : State) (k : Slot) (l : Option Live) : (s.setSlot k l).framer = s.framer := rfl
@[simp] theorem State.setSlot_restart (s : State) (k : Slot) (l : Option Live) : (s.setSlot k l).restart = s.restart := rfl
@[simp] theorem State.setSlot_burst (s : State) (k : Slot) (l : Option Live) : (s.setSlot k l).burst = s.burst := rfl
@[simp] theorem State.setSlot_burstNumber (s : State) (k : Slot) (l : Option Live) : (s.setSlot k l).burstNumber = s.burstNumber := rfl
@[simp] theorem State.setSlot_prevAddr (s : State) (k : Slot) (l : Option Live) : (s.setSlot k l).prevAddr = s.prevAddr := rfl
@[simp] theorem State.setSlot_statusTimer (s : State) (k : Slot) (l : Option Live) : (s.setSlot k l).statusTimer = s.statusTimer := rfl
@[simp] theorem State.setSlot_notices (s : State) (k : Slot) (l : Option Live) : (s.setSlot k l).notices = s.notices := rfl
@[simp] theorem State.setSlot_answer (s : State) (k : Slot) (l : Option Live) : (s.setSlot k l).answer = s.answer := rfl
@[simp] theorem State.setSlot_capture (s : State) (k : Slot) (l : Option Live) : (s.setSlot k l).capture = s.capture := rfl
@[simp] theorem State.setSlot_flags (s : State) (k : Slot) (l : Option Live) : (s.setSlot k l).flags = s.flags := rfl
@[simp] theorem State.setSlot_counters (s : State) (k : Slot) (l : Option Live) : (s.setSlot k l).counters = s.counters := rfl
@[simp] theorem State.setSlot_pending (s : State) (k : Slot) (l : Option Live) : (s.setSlot k l).pending = s.pending := rfl

/-! ### reply -/

@[simp] theorem State.reply_rst (s : State) (c : Instr) (st : Status) (d : List Byte) : (s.reply c st d).rst = s.rst := rfl
@[simp] theorem State.reply_mrst (s : State) (c : Instr) (st : Status) (d : List Byte) : (s.reply c st d).mrst = s.mrst := rfl
@[simp] theorem State.reply_devId (s : State) (c : Instr) (st : Status) (d : List Byte) : (s.reply c st d).devId = s.devId := rfl
@[simp] theorem State.reply_lineA (s : State) (c : Instr) (st : Status) (d : List Byte) : (s.reply c st d).lineA = s.lineA := rfl
@[simp] theorem State.reply_lineB (s : State) (c : Instr) (st : Status) (d : List Byte) : (s.reply c st d).lineB = s.lineB := rfl
@[simp] theorem State.reply_csIgnore (s : State) (c : Instr) (st : Status) (d : List Byte) : (s.reply c st d).csIgnore = s.csIgnore := rfl
@[simp] theorem State.reply_tick (s : State) (c : Instr) (st : Status) (d : List Byte) : (s.reply c st d).tick = s.tick := rfl
@[simp] theorem State.reply_periodCount (s : State) (c : Instr) (st : Status) (d : List Byte) : (s.reply c st d).periodCount = s.periodCount := rfl
@[simp] theorem State.reply_divInForce (s : State) (c : Instr) (st : Status) (d : List Byte) : (s.reply c st d).divInForce = s.divInForce := rfl
@[simp] theorem State.reply_owed (s : State) (c : Instr) (st : Status) (d : List Byte) : (s.reply c st d).owed = s.owed := rfl
@[simp] theorem State.reply_recState (s : State) (c : Instr) (st : Status) (d : List Byte) : (s.reply c st d).recState = s.recState := rfl
@[simp] theorem State.reply_suspended (s : State) (c : Instr) (st : Status) (d : List Byte) : (s.reply c st d).suspended = s.suspended := rfl
@[simp] theorem State.reply_regs (s : State) (c : Instr) (st : Status) (d : List Byte) : (s.reply c st d).regs = s.regs := rfl
@[simp] theorem State.reply_horizon (s : State) (c : Instr) (st : Status) (d : List Byte) : (s.reply c st d).horizon = s.horizon := rfl
@[simp] theorem State.reply_window (s : State) (c : Instr) (st : Status) (d : List Byte) : (s.reply c st d).window = s.window := rfl
@[simp] theorem State.reply_seq (s : State) (c : Instr) (st : Status) (d : List Byte) : (s.reply c st d).seq = s.seq := rfl
@[simp] theorem State.reply_slots (s : State) (c : Instr) (st : Status) (d : List Byte) : (s.reply c st d).slots = s.slots := rfl
@[simp] theorem State.reply_parking (s : State) (c : Instr) (st : Status) (d : List Byte) : (s.reply c st d).parking = s.parking := rfl
@[simp] theorem State.reply_deviceTag (s : State) (c : Instr) (st : Status) (d : List Byte) : (s.reply c st d).deviceTag = s.deviceTag := rfl
@[simp] theorem State.reply_queue (s : State) (c : Instr) (st : Status) (d : List Byte) : (s.reply c st d).queue = s.queue := rfl
@[simp] theorem State.reply_inTransmission (s : State) (c : Instr) (st : Status) (d : List Byte) : (s.reply c st d).inTransmission = s.inTransmission := rfl
@[simp] theorem State.reply_ott (s : State) (c : Instr) (st : Status) (d : List Byte) : (s.reply c st d).ott = s.ott := rfl
@[simp] theorem State.reply_reqQueue (s : State) (c : Instr) (st : Status) (d : List Byte) : (s.reply c st d).reqQueue = s.reqQueue := rfl
@[simp] theorem State.reply_respQueue (s : State) (c : Instr) (st : Status) (d : List Byte) : (s.reply c st d).respQueue = s.respQueue := rfl
@[simp] theorem State.reply_uqAssembly (s : State) (c : Instr) (st : Status) (d : List Byte) : (s.reply c st d).uqAssembly = s.uqAssembly := rfl
@[simp] theorem State.reply_mpAssembly (s : State) (c : Instr) (st : Status) (d : List Byte) : (s.reply c st d).mpAssembly = s.mpAssembly := rfl
@[simp] theorem State.reply_throttleCount (s : State) (c : Instr) (st : Status) (d : List Byte) : (s.reply c st d).throttleCount = s.throttleCount := rfl
@[simp] theorem State.reply_framer (s : State) (c : Instr) (st : Status) (d : List Byte) : (s.reply c st d).framer = s.framer := rfl
@[simp] theorem State.reply_restart (s : State) (c : Instr) (st : Status) (d : List Byte) : (s.reply c st d).restart = s.restart := rfl
@[simp] theorem State.reply_burst (s : State) (c : Instr) (st : Status) (d : List Byte) : (s.reply c st d).burst = s.burst := rfl
@[simp] theorem State.reply_burstNumber (s : State) (c : Instr) (st : Status) (d : List Byte) : (s.reply c st d).burstNumber = s.burstNumber := rfl
@[simp] theorem State.reply_prevAddr (s : State) (c : Instr) (st : Status) (d : List Byte) : (s.reply c st d).prevAddr = s.prevAddr := rfl
@[simp] theorem State.reply_statusTimer (s : State) (c : Instr) (st : Status) (d : List Byte) : (s.reply c st d).statusTimer = s.statusTimer := rfl
@[simp] theorem State.reply_notices (s : State) (c : Instr) (st : Status) (d : List Byte) : (s.reply c st d).notices = s.notices := rfl
@[simp] theorem State.reply_capture (s : State) (c : Instr) (st : Status) (d : List Byte) : (s.reply c st d).capture = s.capture := rfl
@[simp] theorem State.reply_flags (s : State) (c : Instr) (st : Status) (d : List Byte) : (s.reply c st d).flags = s.flags := rfl
@[simp] theorem State.reply_counters (s : State) (c : Instr) (st : Status) (d : List Byte) : (s.reply c st d).counters = s.counters := rfl
@[simp] theorem State.reply_pending (s : State) (c : Instr) (st : Status) (d : List Byte) : (s.reply c st d).pending = s.pending := rfl

/-! ### offer -/

@[simp] theorem State.offer_rst (s : State) : (s.offer).rst = s.rst := rfl
@[simp] theorem State.offer_mrst (s : State) : (s.offer).mrst = s.mrst := rfl
@[simp] theorem State.offer_devId (s : State) : (s.offer).devId = s.devId := rfl
@[simp] theorem State.offer_lineA (s : State) : (s.offer).lineA = s.lineA := rfl
@[simp] theorem State.offer_lineB (s : State) : (s.offer).lineB = s.lineB := rfl
@[simp] theorem State.offer_csIgnore (s : State) : (s.offer).csIgnore = s.csIgnore := rfl
@[simp] theorem State.offer_csLow (s : State) : (s.offer).csLow = s.csLow := rfl
@[simp] theorem State.offer_frame (s : State) : (s.offer).frame = s.frame := rfl
@[simp] theorem State.offer_tick (s : State) : (s.offer).tick = s.tick := rfl
@[simp] theorem State.offer_periodCount (s : State) : (s.offer).periodCount = s.periodCount := rfl
@[simp] theorem State.offer_divInForce (s : State) : (s.offer).divInForce = s.divInForce := rfl
@[simp] theorem State.offer_owed (s : State) : (s.offer).owed = s.owed := rfl
@[simp] theorem State.offer_recState (s : State) : (s.offer).recState = s.recState := rfl
@[simp] theorem State.offer_suspended (s : State) : (s.offer).suspended = s.suspended := rfl
@[simp] theorem State.offer_regs (s : State) : (s.offer).regs = s.regs := rfl
@[simp] theorem State.offer_horizon (s : State) : (s.offer).horizon = s.horizon := rfl
@[simp] theorem State.offer_window (s : State) : (s.offer).window = s.window := rfl
@[simp] theorem State.offer_seq (s : State) : (s.offer).seq = s.seq := rfl
@[simp] theorem State.offer_slots (s : State) : (s.offer).slots = s.slots := rfl
@[simp] theorem State.offer_parking (s : State) : (s.offer).parking = s.parking := rfl
@[simp] theorem State.offer_deviceTag (s : State) : (s.offer).deviceTag = s.deviceTag := rfl
@[simp] theorem State.offer_queue (s : State) : (s.offer).queue = s.queue := rfl
@[simp] theorem State.offer_inTransmission (s : State) : (s.offer).inTransmission = s.inTransmission := rfl
@[simp] theorem State.offer_ott (s : State) : (s.offer).ott = s.ott := rfl
@[simp] theorem State.offer_reqQueue (s : State) : (s.offer).reqQueue = s.reqQueue := rfl
@[simp] theorem State.offer_respQueue (s : State) : (s.offer).respQueue = s.respQueue := rfl
@[simp] theorem State.offer_uqAssembly (s : State) : (s.offer).uqAssembly = s.uqAssembly := rfl
@[simp] theorem State.offer_mpAssembly (s : State) : (s.offer).mpAssembly = s.mpAssembly := rfl
@[simp] theorem State.offer_throttleCount (s : State) : (s.offer).throttleCount = s.throttleCount := rfl
@[simp] theorem State.offer_restart (s : State) : (s.offer).restart = s.restart := rfl
@[simp] theorem State.offer_burst (s : State) : (s.offer).burst = s.burst := rfl
@[simp] theorem State.offer_burstNumber (s : State) : (s.offer).burstNumber = s.burstNumber := rfl
@[simp] theorem State.offer_prevAddr (s : State) : (s.offer).prevAddr = s.prevAddr := rfl
@[simp] theorem State.offer_statusTimer (s : State) : (s.offer).statusTimer = s.statusTimer := rfl
@[simp] theorem State.offer_notices (s : State) : (s.offer).notices = s.notices := rfl
@[simp] theorem State.offer_answer (s : State) : (s.offer).answer = s.answer := rfl
@[simp] theorem State.offer_capture (s : State) : (s.offer).capture = s.capture := rfl
@[simp] theorem State.offer_flags (s : State) : (s.offer).flags = s.flags := rfl
@[simp] theorem State.offer_counters (s : State) : (s.offer).counters = s.counters := rfl
@[simp] theorem State.offer_pending (s : State) : (s.offer).pending = s.pending := rfl

@[simp] theorem State.raise_flags (s : State) (f : Flag) : (s.raise f).flags = s.flags ||| flagBit f := rfl
@[simp] theorem State.count_counters (s : State) (c : CounterName) : (s.count c).counters = s.counters.bump c := rfl
@[simp] theorem State.setSlot_slots (s : State) (k : Slot) (l : Option Live) :
    (s.setSlot k l).slots = s.slots.set k.val l k.isLt := rfl
@[simp] theorem State.reply_answer (s : State) (c : Instr) (st : Status) (d : List Byte) :
    (s.reply c st d).answer = some ⟨st, d⟩ := rfl
@[simp] theorem State.reply_csLow (s : State) (c : Instr) (st : Status) (d : List Byte) :
    (s.reply c st d).csLow = true := rfl
@[simp] theorem State.reply_frame (s : State) (c : Instr) (st : Status) (d : List Byte) :
    (s.reply c st d).frame = linkFrame c := rfl

/-! ### Each flag raised and each counter counted, as the record that results -/

theorem State.raise_skip (s : State) : s.raise .skip = { s with flags := s.flags ||| 0x0001 } := rfl
theorem State.raise_timeout (s : State) : s.raise .timeout = { s with flags := s.flags ||| 0x0002 } := rfl
theorem State.raise_orphan (s : State) : s.raise .orphan = { s with flags := s.flags ||| 0x0004 } := rfl
theorem State.raise_storeFull (s : State) : s.raise .storeFull = { s with flags := s.flags ||| 0x0008 } := rfl
theorem State.raise_throttle (s : State) : s.raise .throttle = { s with flags := s.flags ||| 0x0010 } := rfl
theorem State.raise_noticeLost (s : State) : s.raise .noticeLost = { s with flags := s.flags ||| 0x0020 } := rfl
theorem State.raise_windowDrop (s : State) : s.raise .windowDrop = { s with flags := s.flags ||| 0x0040 } := rfl
theorem State.raise_link (s : State) : s.raise .link = { s with flags := s.flags ||| 0x0080 } := rfl
theorem State.raise_drained (s : State) : s.raise .drained = { s with flags := s.flags ||| 0x0100 } := rfl
theorem State.count_skipped (s : State) :
    s.count .skipped = { s with counters := { s.counters with skipped := satInc s.counters.skipped } } := rfl
theorem State.count_merged (s : State) :
    s.count .merged = { s with counters := { s.counters with merged := satInc s.counters.merged } } := rfl
theorem State.count_windowDrops (s : State) :
    s.count .windowDrops = { s with counters := { s.counters with windowDrops := satInc s.counters.windowDrops } } := rfl
theorem State.count_lateResponses (s : State) :
    s.count .lateResponses = { s with counters := { s.counters with lateResponses := satInc s.counters.lateResponses } } := rfl
theorem State.count_orphans (s : State) :
    s.count .orphans = { s with counters := { s.counters with orphans := satInc s.counters.orphans } } := rfl
theorem State.count_truncatedRecords (s : State) :
    s.count .truncatedRecords = { s with counters := { s.counters with truncatedRecords := satInc s.counters.truncatedRecords } } := rfl
theorem State.count_discardedEvents (s : State) :
    s.count .discardedEvents = { s with counters := { s.counters with discardedEvents := satInc s.counters.discardedEvents } } := rfl
theorem State.count_decisionTimeouts (s : State) :
    s.count .decisionTimeouts = { s with counters := { s.counters with decisionTimeouts := satInc s.counters.decisionTimeouts } } := rfl
theorem State.count_throttleTimeouts (s : State) :
    s.count .throttleTimeouts = { s with counters := { s.counters with throttleTimeouts := satInc s.counters.throttleTimeouts } } := rfl
theorem State.count_noticesLost (s : State) :
    s.count .noticesLost = { s with counters := { s.counters with noticesLost := satInc s.counters.noticesLost } } := rfl
theorem State.count_linkErrors (s : State) :
    s.count .linkErrors = { s with counters := { s.counters with linkErrors := satInc s.counters.linkErrors } } := rfl
theorem State.count_eventsSent (s : State) :
    s.count .eventsSent = { s with counters := { s.counters with eventsSent := satInc s.counters.eventsSent } } := rfl

/-- The flag bits as words (11.2). -/
theorem flagBit_eq (f : Flag) : flagBit f = match f with
    | .skip => 0x0001
    | .timeout => 0x0002
    | .orphan => 0x0004
    | .storeFull => 0x0008
    | .throttle => 0x0010
    | .noticeLost => 0x0020
    | .windowDrop => 0x0040
    | .link => 0x0080
    | .drained => 0x0100 := by
  cases f <;> rfl

/-- A bumped counter goes up by one, saturating, and no other counter moves (data book 1.5). -/
theorem Counters.get_bump (n : Counters) (c d : CounterName) :
    (n.bump c).get d = if d = c then satInc (n.get c) else n.get d := by
  cases c <;> cases d <;> rfl

end Sys2Proof.Machine
end

