-- ==== Sys2Proof/Laws/Frames.lean ====
section
/-! SUPPORT. What each shared operation can change: an equation that names the fields it may set, from which every other
field is unchanged, and for the operations met most often one simp lemma per unchanged field. -/

namespace Sys2Proof.Machine

/-! ### rechoose -/

/-- What rechoose may change. -/
theorem State.rechoose_eq (s : State) : s.rechoose =
    { s with framer := s.rechoose.framer } := by
  unfold State.rechoose; split <;> rfl

@[simp] theorem State.rechoose_rst (s : State) : (s.rechoose).rst = s.rst := by
  rw [State.rechoose_eq]
@[simp] theorem State.rechoose_mrst (s : State) : (s.rechoose).mrst = s.mrst := by
  rw [State.rechoose_eq]
@[simp] theorem State.rechoose_devId (s : State) : (s.rechoose).devId = s.devId := by
  rw [State.rechoose_eq]
@[simp] theorem State.rechoose_lineA (s : State) : (s.rechoose).lineA = s.lineA := by
  rw [State.rechoose_eq]
@[simp] theorem State.rechoose_lineB (s : State) : (s.rechoose).lineB = s.lineB := by
  rw [State.rechoose_eq]
@[simp] theorem State.rechoose_csIgnore (s : State) : (s.rechoose).csIgnore = s.csIgnore := by
  rw [State.rechoose_eq]
@[simp] theorem State.rechoose_csLow (s : State) : (s.rechoose).csLow = s.csLow := by
  rw [State.rechoose_eq]
@[simp] theorem State.rechoose_frame (s : State) : (s.rechoose).frame = s.frame := by
  rw [State.rechoose_eq]
@[simp] theorem State.rechoose_tick (s : State) : (s.rechoose).tick = s.tick := by
  rw [State.rechoose_eq]
@[simp] theorem State.rechoose_periodCount (s : State) : (s.rechoose).periodCount = s.periodCount := by
  rw [State.rechoose_eq]
@[simp] theorem State.rechoose_divInForce (s : State) : (s.rechoose).divInForce = s.divInForce := by
  rw [State.rechoose_eq]
@[simp] theorem State.rechoose_owed (s : State) : (s.rechoose).owed = s.owed := by
  rw [State.rechoose_eq]
@[simp] theorem State.rechoose_recState (s : State) : (s.rechoose).recState = s.recState := by
  rw [State.rechoose_eq]
@[simp] theorem State.rechoose_suspended (s : State) : (s.rechoose).suspended = s.suspended := by
  rw [State.rechoose_eq]
@[simp] theorem State.rechoose_regs (s : State) : (s.rechoose).regs = s.regs := by
  rw [State.rechoose_eq]
@[simp] theorem State.rechoose_horizon (s : State) : (s.rechoose).horizon = s.horizon := by
  rw [State.rechoose_eq]
@[simp] theorem State.rechoose_window (s : State) : (s.rechoose).window = s.window := by
  rw [State.rechoose_eq]
@[simp] theorem State.rechoose_seq (s : State) : (s.rechoose).seq = s.seq := by
  rw [State.rechoose_eq]
@[simp] theorem State.rechoose_slots (s : State) : (s.rechoose).slots = s.slots := by
  rw [State.rechoose_eq]
@[simp] theorem State.rechoose_parking (s : State) : (s.rechoose).parking = s.parking := by
  rw [State.rechoose_eq]
@[simp] theorem State.rechoose_deviceTag (s : State) : (s.rechoose).deviceTag = s.deviceTag := by
  rw [State.rechoose_eq]
@[simp] theorem State.rechoose_queue (s : State) : (s.rechoose).queue = s.queue := by
  rw [State.rechoose_eq]
@[simp] theorem State.rechoose_inTransmission (s : State) : (s.rechoose).inTransmission = s.inTransmission := by
  rw [State.rechoose_eq]
@[simp] theorem State.rechoose_ott (s : State) : (s.rechoose).ott = s.ott := by
  rw [State.rechoose_eq]
@[simp] theorem State.rechoose_reqQueue (s : State) : (s.rechoose).reqQueue = s.reqQueue := by
  rw [State.rechoose_eq]
@[simp] theorem State.rechoose_respQueue (s : State) : (s.rechoose).respQueue = s.respQueue := by
  rw [State.rechoose_eq]
@[simp] theorem State.rechoose_uqAssembly (s : State) : (s.rechoose).uqAssembly = s.uqAssembly := by
  rw [State.rechoose_eq]
@[simp] theorem State.rechoose_mpAssembly (s : State) : (s.rechoose).mpAssembly = s.mpAssembly := by
  rw [State.rechoose_eq]
@[simp] theorem State.rechoose_throttleCount (s : State) : (s.rechoose).throttleCount = s.throttleCount := by
  rw [State.rechoose_eq]
@[simp] theorem State.rechoose_restart (s : State) : (s.rechoose).restart = s.restart := by
  rw [State.rechoose_eq]
@[simp] theorem State.rechoose_burst (s : State) : (s.rechoose).burst = s.burst := by
  rw [State.rechoose_eq]
@[simp] theorem State.rechoose_burstNumber (s : State) : (s.rechoose).burstNumber = s.burstNumber := by
  rw [State.rechoose_eq]
@[simp] theorem State.rechoose_prevAddr (s : State) : (s.rechoose).prevAddr = s.prevAddr := by
  rw [State.rechoose_eq]
@[simp] theorem State.rechoose_statusTimer (s : State) : (s.rechoose).statusTimer = s.statusTimer := by
  rw [State.rechoose_eq]
@[simp] theorem State.rechoose_notices (s : State) : (s.rechoose).notices = s.notices := by
  rw [State.rechoose_eq]
@[simp] theorem State.rechoose_answer (s : State) : (s.rechoose).answer = s.answer := by
  rw [State.rechoose_eq]
@[simp] theorem State.rechoose_capture (s : State) : (s.rechoose).capture = s.capture := by
  rw [State.rechoose_eq]
@[simp] theorem State.rechoose_flags (s : State) : (s.rechoose).flags = s.flags := by
  rw [State.rechoose_eq]
@[simp] theorem State.rechoose_counters (s : State) : (s.rechoose).counters = s.counters := by
  rw [State.rechoose_eq]
@[simp] theorem State.rechoose_pending (s : State) : (s.rechoose).pending = s.pending := by
  rw [State.rechoose_eq]

/-! ### storeChanged -/

/-- What storeChanged may change. -/
theorem State.storeChanged_eq (s : State) : s.storeChanged =
    { s with suspended := s.storeChanged.suspended } := by
  unfold State.storeChanged; split <;> rfl

@[simp] theorem State.storeChanged_rst (s : State) : (s.storeChanged).rst = s.rst := by
  rw [State.storeChanged_eq]
@[simp] theorem State.storeChanged_mrst (s : State) : (s.storeChanged).mrst = s.mrst := by
  rw [State.storeChanged_eq]
@[simp] theorem State.storeChanged_devId (s : State) : (s.storeChanged).devId = s.devId := by
  rw [State.storeChanged_eq]
@[simp] theorem State.storeChanged_lineA (s : State) : (s.storeChanged).lineA = s.lineA := by
  rw [State.storeChanged_eq]
@[simp] theorem State.storeChanged_lineB (s : State) : (s.storeChanged).lineB = s.lineB := by
  rw [State.storeChanged_eq]
@[simp] theorem State.storeChanged_csIgnore (s : State) : (s.storeChanged).csIgnore = s.csIgnore := by
  rw [State.storeChanged_eq]
@[simp] theorem State.storeChanged_csLow (s : State) : (s.storeChanged).csLow = s.csLow := by
  rw [State.storeChanged_eq]
@[simp] theorem State.storeChanged_frame (s : State) : (s.storeChanged).frame = s.frame := by
  rw [State.storeChanged_eq]
@[simp] theorem State.storeChanged_tick (s : State) : (s.storeChanged).tick = s.tick := by
  rw [State.storeChanged_eq]
@[simp] theorem State.storeChanged_periodCount (s : State) : (s.storeChanged).periodCount = s.periodCount := by
  rw [State.storeChanged_eq]
@[simp] theorem State.storeChanged_divInForce (s : State) : (s.storeChanged).divInForce = s.divInForce := by
  rw [State.storeChanged_eq]
@[simp] theorem State.storeChanged_owed (s : State) : (s.storeChanged).owed = s.owed := by
  rw [State.storeChanged_eq]
@[simp] theorem State.storeChanged_recState (s : State) : (s.storeChanged).recState = s.recState := by
  rw [State.storeChanged_eq]
@[simp] theorem State.storeChanged_regs (s : State) : (s.storeChanged).regs = s.regs := by
  rw [State.storeChanged_eq]
@[simp] theorem State.storeChanged_horizon (s : State) : (s.storeChanged).horizon = s.horizon := by
  rw [State.storeChanged_eq]
@[simp] theorem State.storeChanged_window (s : State) : (s.storeChanged).window = s.window := by
  rw [State.storeChanged_eq]
@[simp] theorem State.storeChanged_seq (s : State) : (s.storeChanged).seq = s.seq := by
  rw [State.storeChanged_eq]
@[simp] theorem State.storeChanged_slots (s : State) : (s.storeChanged).slots = s.slots := by
  rw [State.storeChanged_eq]
@[simp] theorem State.storeChanged_parking (s : State) : (s.storeChanged).parking = s.parking := by
  rw [State.storeChanged_eq]
@[simp] theorem State.storeChanged_deviceTag (s : State) : (s.storeChanged).deviceTag = s.deviceTag := by
  rw [State.storeChanged_eq]
@[simp] theorem State.storeChanged_queue (s : State) : (s.storeChanged).queue = s.queue := by
  rw [State.storeChanged_eq]
@[simp] theorem State.storeChanged_inTransmission (s : State) : (s.storeChanged).inTransmission = s.inTransmission := by
  rw [State.storeChanged_eq]
@[simp] theorem State.storeChanged_ott (s : State) : (s.storeChanged).ott = s.ott := by
  rw [State.storeChanged_eq]
@[simp] theorem State.storeChanged_reqQueue (s : State) : (s.storeChanged).reqQueue = s.reqQueue := by
  rw [State.storeChanged_eq]
@[simp] theorem State.storeChanged_respQueue (s : State) : (s.storeChanged).respQueue = s.respQueue := by
  rw [State.storeChanged_eq]
@[simp] theorem State.storeChanged_uqAssembly (s : State) : (s.storeChanged).uqAssembly = s.uqAssembly := by
  rw [State.storeChanged_eq]
@[simp] theorem State.storeChanged_mpAssembly (s : State) : (s.storeChanged).mpAssembly = s.mpAssembly := by
  rw [State.storeChanged_eq]
@[simp] theorem State.storeChanged_throttleCount (s : State) : (s.storeChanged).throttleCount = s.throttleCount := by
  rw [State.storeChanged_eq]
@[simp] theorem State.storeChanged_framer (s : State) : (s.storeChanged).framer = s.framer := by
  rw [State.storeChanged_eq]
@[simp] theorem State.storeChanged_restart (s : State) : (s.storeChanged).restart = s.restart := by
  rw [State.storeChanged_eq]
@[simp] theorem State.storeChanged_burst (s : State) : (s.storeChanged).burst = s.burst := by
  rw [State.storeChanged_eq]
@[simp] theorem State.storeChanged_burstNumber (s : State) : (s.storeChanged).burstNumber = s.burstNumber := by
  rw [State.storeChanged_eq]
@[simp] theorem State.storeChanged_prevAddr (s : State) : (s.storeChanged).prevAddr = s.prevAddr := by
  rw [State.storeChanged_eq]
@[simp] theorem State.storeChanged_statusTimer (s : State) : (s.storeChanged).statusTimer = s.statusTimer := by
  rw [State.storeChanged_eq]
@[simp] theorem State.storeChanged_notices (s : State) : (s.storeChanged).notices = s.notices := by
  rw [State.storeChanged_eq]
@[simp] theorem State.storeChanged_answer (s : State) : (s.storeChanged).answer = s.answer := by
  rw [State.storeChanged_eq]
@[simp] theorem State.storeChanged_capture (s : State) : (s.storeChanged).capture = s.capture := by
  rw [State.storeChanged_eq]
@[simp] theorem State.storeChanged_flags (s : State) : (s.storeChanged).flags = s.flags := by
  rw [State.storeChanged_eq]
@[simp] theorem State.storeChanged_counters (s : State) : (s.storeChanged).counters = s.counters := by
  rw [State.storeChanged_eq]
@[simp] theorem State.storeChanged_pending (s : State) : (s.storeChanged).pending = s.pending := by
  rw [State.storeChanged_eq]

/-! ### drainTest -/

/-- What drainTest may change. -/
theorem State.drainTest_eq (s : State) : s.drainTest =
    { s with recState := s.drainTest.recState, flags := s.drainTest.flags } := by
  unfold State.drainTest; split <;> rfl

@[simp] theorem State.drainTest_rst (s : State) : (s.drainTest).rst = s.rst := by
  rw [State.drainTest_eq]
@[simp] theorem State.drainTest_mrst (s : State) : (s.drainTest).mrst = s.mrst := by
  rw [State.drainTest_eq]
@[simp] theorem State.drainTest_devId (s : State) : (s.drainTest).devId = s.devId := by
  rw [State.drainTest_eq]
@[simp] theorem State.drainTest_lineA (s : State) : (s.drainTest).lineA = s.lineA := by
  rw [State.drainTest_eq]
@[simp] theorem State.drainTest_lineB (s : State) : (s.drainTest).lineB = s.lineB := by
  rw [State.drainTest_eq]
@[simp] theorem State.drainTest_csIgnore (s : State) : (s.drainTest).csIgnore = s.csIgnore := by
  rw [State.drainTest_eq]
@[simp] theorem State.drainTest_csLow (s : State) : (s.drainTest).csLow = s.csLow := by
  rw [State.drainTest_eq]
@[simp] theorem State.drainTest_frame (s : State) : (s.drainTest).frame = s.frame := by
  rw [State.drainTest_eq]
@[simp] theorem State.drainTest_tick (s : State) : (s.drainTest).tick = s.tick := by
  rw [State.drainTest_eq]
@[simp] theorem State.drainTest_periodCount (s : State) : (s.drainTest).periodCount = s.periodCount := by
  rw [State.drainTest_eq]
@[simp] theorem State.drainTest_divInForce (s : State) : (s.drainTest).divInForce = s.divInForce := by
  rw [State.drainTest_eq]
@[simp] theorem State.drainTest_owed (s : State) : (s.drainTest).owed = s.owed := by
  rw [State.drainTest_eq]
@[simp] theorem State.drainTest_suspended (s : State) : (s.drainTest).suspended = s.suspended := by
  rw [State.drainTest_eq]
@[simp] theorem State.drainTest_regs (s : State) : (s.drainTest).regs = s.regs := by
  rw [State.drainTest_eq]
@[simp] theorem State.drainTest_horizon (s : State) : (s.drainTest).horizon = s.horizon := by
  rw [State.drainTest_eq]
@[simp] theorem State.drainTest_window (s : State) : (s.drainTest).window = s.window := by
  rw [State.drainTest_eq]
@[simp] theorem State.drainTest_seq (s : State) : (s.drainTest).seq = s.seq := by
  rw [State.drainTest_eq]
@[simp] theorem State.drainTest_slots (s : State) : (s.drainTest).slots = s.slots := by
  rw [State.drainTest_eq]
@[simp] theorem State.drainTest_parking (s : State) : (s.drainTest).parking = s.parking := by
  rw [State.drainTest_eq]
@[simp] theorem State.drainTest_deviceTag (s : State) : (s.drainTest).deviceTag = s.deviceTag := by
  rw [State.drainTest_eq]
@[simp] theorem State.drainTest_queue (s : State) : (s.drainTest).queue = s.queue := by
  rw [State.drainTest_eq]
@[simp] theorem State.drainTest_inTransmission (s : State) : (s.drainTest).inTransmission = s.inTransmission := by
  rw [State.drainTest_eq]
@[simp] theorem State.drainTest_ott (s : State) : (s.drainTest).ott = s.ott := by
  rw [State.drainTest_eq]
@[simp] theorem State.drainTest_reqQueue (s : State) : (s.drainTest).reqQueue = s.reqQueue := by
  rw [State.drainTest_eq]
@[simp] theorem State.drainTest_respQueue (s : State) : (s.drainTest).respQueue = s.respQueue := by
  rw [State.drainTest_eq]
@[simp] theorem State.drainTest_uqAssembly (s : State) : (s.drainTest).uqAssembly = s.uqAssembly := by
  rw [State.drainTest_eq]
@[simp] theorem State.drainTest_mpAssembly (s : State) : (s.drainTest).mpAssembly = s.mpAssembly := by
  rw [State.drainTest_eq]
@[simp] theorem State.drainTest_throttleCount (s : State) : (s.drainTest).throttleCount = s.throttleCount := by
  rw [State.drainTest_eq]
@[simp] theorem State.drainTest_framer (s : State) : (s.drainTest).framer = s.framer := by
  rw [State.drainTest_eq]
@[simp] theorem State.drainTest_restart (s : State) : (s.drainTest).restart = s.restart := by
  rw [State.drainTest_eq]
@[simp] theorem State.drainTest_burst (s : State) : (s.drainTest).burst = s.burst := by
  rw [State.drainTest_eq]
@[simp] theorem State.drainTest_burstNumber (s : State) : (s.drainTest).burstNumber = s.burstNumber := by
  rw [State.drainTest_eq]
@[simp] theorem State.drainTest_prevAddr (s : State) : (s.drainTest).prevAddr = s.prevAddr := by
  rw [State.drainTest_eq]
@[simp] theorem State.drainTest_statusTimer (s : State) : (s.drainTest).statusTimer = s.statusTimer := by
  rw [State.drainTest_eq]
@[simp] theorem State.drainTest_notices (s : State) : (s.drainTest).notices = s.notices := by
  rw [State.drainTest_eq]
@[simp] theorem State.drainTest_answer (s : State) : (s.drainTest).answer = s.answer := by
  rw [State.drainTest_eq]
@[simp] theorem State.drainTest_capture (s : State) : (s.drainTest).capture = s.capture := by
  rw [State.drainTest_eq]
@[simp] theorem State.drainTest_counters (s : State) : (s.drainTest).counters = s.counters := by
  rw [State.drainTest_eq]
@[simp] theorem State.drainTest_pending (s : State) : (s.drainTest).pending = s.pending := by
  rw [State.drainTest_eq]

/-! ### notify -/

/-- What notify may change. -/
theorem State.notify_eq (s : State) (n : Notice) : s.notify n =
    { s with framer := (s.notify n).framer, notices := (s.notify n).notices, counters := (s.notify n).counters, flags := (s.notify n).flags } := by
  unfold State.notify; split
  · split
    · rw [State.rechoose_eq]
    · rfl
  · rfl

@[simp] theorem State.notify_rst (s : State) (n : Notice) : (s.notify n).rst = s.rst := by
  rw [State.notify_eq]
@[simp] theorem State.notify_mrst (s : State) (n : Notice) : (s.notify n).mrst = s.mrst := by
  rw [State.notify_eq]
@[simp] theorem State.notify_devId (s : State) (n : Notice) : (s.notify n).devId = s.devId := by
  rw [State.notify_eq]
@[simp] theorem State.notify_lineA (s : State) (n : Notice) : (s.notify n).lineA = s.lineA := by
  rw [State.notify_eq]
@[simp] theorem State.notify_lineB (s : State) (n : Notice) : (s.notify n).lineB = s.lineB := by
  rw [State.notify_eq]
@[simp] theorem State.notify_csIgnore (s : State) (n : Notice) : (s.notify n).csIgnore = s.csIgnore := by
  rw [State.notify_eq]
@[simp] theorem State.notify_csLow (s : State) (n : Notice) : (s.notify n).csLow = s.csLow := by
  rw [State.notify_eq]
@[simp] theorem State.notify_frame (s : State) (n : Notice) : (s.notify n).frame = s.frame := by
  rw [State.notify_eq]
@[simp] theorem State.notify_tick (s : State) (n : Notice) : (s.notify n).tick = s.tick := by
  rw [State.notify_eq]
@[simp] theorem State.notify_periodCount (s : State) (n : Notice) : (s.notify n).periodCount = s.periodCount := by
  rw [State.notify_eq]
@[simp] theorem State.notify_divInForce (s : State) (n : Notice) : (s.notify n).divInForce = s.divInForce := by
  rw [State.notify_eq]
@[simp] theorem State.notify_owed (s : State) (n : Notice) : (s.notify n).owed = s.owed := by
  rw [State.notify_eq]
@[simp] theorem State.notify_recState (s : State) (n : Notice) : (s.notify n).recState = s.recState := by
  rw [State.notify_eq]
@[simp] theorem State.notify_suspended (s : State) (n : Notice) : (s.notify n).suspended = s.suspended := by
  rw [State.notify_eq]
@[simp] theorem State.notify_regs (s : State) (n : Notice) : (s.notify n).regs = s.regs := by
  rw [State.notify_eq]
@[simp] theorem State.notify_horizon (s : State) (n : Notice) : (s.notify n).horizon = s.horizon := by
  rw [State.notify_eq]
@[simp] theorem State.notify_window (s : State) (n : Notice) : (s.notify n).window = s.window := by
  rw [State.notify_eq]
@[simp] theorem State.notify_seq (s : State) (n : Notice) : (s.notify n).seq = s.seq := by
  rw [State.notify_eq]
@[simp] theorem State.notify_slots (s : State) (n : Notice) : (s.notify n).slots = s.slots := by
  rw [State.notify_eq]
@[simp] theorem State.notify_parking (s : State) (n : Notice) : (s.notify n).parking = s.parking := by
  rw [State.notify_eq]
@[simp] theorem State.notify_deviceTag (s : State) (n : Notice) : (s.notify n).deviceTag = s.deviceTag := by
  rw [State.notify_eq]
@[simp] theorem State.notify_queue (s : State) (n : Notice) : (s.notify n).queue = s.queue := by
  rw [State.notify_eq]
@[simp] theorem State.notify_inTransmission (s : State) (n : Notice) : (s.notify n).inTransmission = s.inTransmission := by
  rw [State.notify_eq]
@[simp] theorem State.notify_ott (s : State) (n : Notice) : (s.notify n).ott = s.ott := by
  rw [State.notify_eq]
@[simp] theorem State.notify_reqQueue (s : State) (n : Notice) : (s.notify n).reqQueue = s.reqQueue := by
  rw [State.notify_eq]
@[simp] theorem State.notify_respQueue (s : State) (n : Notice) : (s.notify n).respQueue = s.respQueue := by
  rw [State.notify_eq]
@[simp] theorem State.notify_uqAssembly (s : State) (n : Notice) : (s.notify n).uqAssembly = s.uqAssembly := by
  rw [State.notify_eq]
@[simp] theorem State.notify_mpAssembly (s : State) (n : Notice) : (s.notify n).mpAssembly = s.mpAssembly := by
  rw [State.notify_eq]
@[simp] theorem State.notify_throttleCount (s : State) (n : Notice) : (s.notify n).throttleCount = s.throttleCount := by
  rw [State.notify_eq]
@[simp] theorem State.notify_restart (s : State) (n : Notice) : (s.notify n).restart = s.restart := by
  rw [State.notify_eq]
@[simp] theorem State.notify_burst (s : State) (n : Notice) : (s.notify n).burst = s.burst := by
  rw [State.notify_eq]
@[simp] theorem State.notify_burstNumber (s : State) (n : Notice) : (s.notify n).burstNumber = s.burstNumber := by
  rw [State.notify_eq]
@[simp] theorem State.notify_prevAddr (s : State) (n : Notice) : (s.notify n).prevAddr = s.prevAddr := by
  rw [State.notify_eq]
@[simp] theorem State.notify_statusTimer (s : State) (n : Notice) : (s.notify n).statusTimer = s.statusTimer := by
  rw [State.notify_eq]
@[simp] theorem State.notify_answer (s : State) (n : Notice) : (s.notify n).answer = s.answer := by
  rw [State.notify_eq]
@[simp] theorem State.notify_capture (s : State) (n : Notice) : (s.notify n).capture = s.capture := by
  rw [State.notify_eq]
@[simp] theorem State.notify_pending (s : State) (n : Notice) : (s.notify n).pending = s.pending := by
  rw [State.notify_eq]

end Sys2Proof.Machine
end

