-- ==== Sys2Proof/Laws/Slots.lean ====
section
/-! SUPPORT. The Trigger Table's slots: reading one after another is written, the lowest FREE slot, the slot of a tag, the
live count, and the records that the events under build hold. -/

namespace Sys2Proof.Machine

theorem mem_allSlots (k : Slot) : k ∈ allSlots := List.mem_finRange k

theorem nodup_allSlots : allSlots.Nodup := List.nodup_finRange 16

/-- Reading a slot after one is written. -/
theorem State.slot_setSlot (s : State) (k j : Slot) (o : Option Live) :
    (s.setSlot k o).slot j = if j = k then o else s.slot j := by
  unfold State.slot State.setSlot
  simp only [Vector.get_eq_getElem]
  rw [Vector.getElem_set]
  by_cases h : j = k
  · simp [h]
  · have : k.val ≠ j.val := fun e => h (Fin.ext e.symm)
    simp [h, this]

@[simp] theorem State.slot_setSlot_self (s : State) (k : Slot) (o : Option Live) : (s.setSlot k o).slot k = o := by
  rw [State.slot_setSlot, if_pos rfl]

theorem State.slot_setSlot_ne (s : State) {k j : Slot} (o : Option Live) (h : j ≠ k) :
    (s.setSlot k o).slot j = s.slot j := by
  rw [State.slot_setSlot, if_neg h]

/-- The slot read depends on the slots alone. -/
theorem State.slot_congr {s t : State} (h : s.slots = t.slots) (k : Slot) : s.slot k = t.slot k := by
  unfold State.slot; rw [h]

/-- Two states' slots are equal when every slot reads the same. -/
theorem State.slots_ext {s t : State} (h : ∀ k, s.slot k = t.slot k) : s.slots = t.slots := by
  apply Vector.ext
  intro i hi
  have := h ⟨i, hi⟩
  simpa [State.slot, Vector.get_eq_getElem] using this

theorem State.setSlot_setSlot (s : State) (k : Slot) (a b : Option Live) :
    (s.setSlot k a).setSlot k b = s.setSlot k b := by
  unfold State.setSlot; simp

theorem State.setSlot_same (s : State) (k : Slot) : s.setSlot k (s.slot k) = s := by
  have : s.slots.set k.val (s.slot k) k.isLt = s.slots := by
    apply Vector.ext
    intro i hi
    rw [Vector.getElem_set]
    split
    · rename_i h; subst h; simp [State.slot, Vector.get_eq_getElem]
    · rfl
  unfold State.setSlot; rw [this]

/-! ### The lowest FREE slot and the slot of a tag -/

theorem find_allSlots_eq_some {p : Slot → Bool} {k : Slot} :
    allSlots.find? p = some k ↔ p k = true ∧ ∀ j, j < k → p j = false := by
  have : allSlots = List.ofFn (fun i : Fin 16 => i) := by simp [allSlots, List.finRange]
  rw [this]
  simp only [List.find?_eq_some_iff_getElem, List.length_ofFn, List.getElem_ofFn]
  constructor
  · rintro ⟨hp, i, hi, he, hj⟩
    refine ⟨hp, fun j hjk => ?_⟩
    have := hj j.val (by have : k.val = i := by rw [← he]
                         have : j.val < k.val := hjk; omega)
    simpa using this
  · rintro ⟨hp, hj⟩
    refine ⟨hp, k.val, by simp, by simp, fun j hlt => ?_⟩
    have := hj ⟨j, by omega⟩ hlt
    simpa using this

theorem State.lowestFree_eq_some {s : State} {k : Slot} :
    s.lowestFree = some k ↔ s.slot k = none ∧ ∀ j, j < k → s.slot j ≠ none := by
  unfold State.lowestFree
  rw [find_allSlots_eq_some]
  simp [Option.isNone_iff_eq_none, Option.ne_none_iff_isSome]

theorem State.lowestFree_eq_none {s : State} : s.lowestFree = none ↔ ∀ k, s.slot k ≠ none := by
  unfold State.lowestFree
  rw [List.find?_eq_none]
  simp only [mem_allSlots, true_implies, Option.isNone_iff_eq_none, ne_eq]

theorem State.findTag_eq_none {s : State} {tag : Tag} :
    s.findTag tag = none ↔ ∀ k l, s.slot k = some l → l.tag ≠ tag := by
  unfold State.findTag
  rw [List.find?_eq_none]
  constructor
  · intro h k l hk; have := h k (mem_allSlots k); simpa [hk] using this
  · intro h k _; cases hk : s.slot k with
    | none => simp
    | some l => simpa using h k l hk

theorem State.findTag_eq_some_of {s : State} {tag : Tag} {k : Slot} {l : Live} (hk : s.slot k = some l)
    (ht : l.tag = tag) (hu : ∀ j a, s.slot j = some a → a.tag = tag → j = k) : s.findTag tag = some k := by
  unfold State.findTag
  rw [find_allSlots_eq_some]
  refine ⟨by simp [hk, ht], fun j hj => ?_⟩
  cases hs : s.slot j with
  | none => simp
  | some a =>
    simp only [Option.any_some, beq_eq_false_iff_ne, ne_eq]
    intro he
    have := hu j a hs he
    subst this
    exact absurd hj (lt_irrefl _)

theorem State.slot_of_findTag {s : State} {tag : Tag} {k : Slot} (h : s.findTag tag = some k) :
    ∃ l, s.slot k = some l ∧ l.tag = tag := by
  unfold State.findTag at h
  rw [find_allSlots_eq_some] at h
  cases hk : s.slot k with
  | none => simp [hk] at h
  | some l => exact ⟨l, rfl, by simpa [hk] using h.1⟩

theorem State.tagHeld_iff {s : State} {tag : Tag} : s.tagHeld tag = true ↔ ∃ k l, s.slot k = some l ∧ l.tag = tag := by
  unfold State.tagHeld
  cases h : s.findTag tag with
  | none =>
    rw [State.findTag_eq_none] at h
    simp only [Option.isSome_none, Bool.false_eq_true, false_iff, not_exists, not_and]
    exact fun k l hk => h k l hk
  | some k =>
    obtain ⟨l, hl⟩ := State.slot_of_findTag h
    simp only [Option.isSome_some, true_iff]
    exact ⟨k, l, hl⟩

/-! ### Counts over the table -/

theorem State.liveCount_eq_zero {s : State} : s.liveCount = 0 ↔ ∀ k, s.slot k = none := by
  unfold State.liveCount
  rw [List.length_eq_zero_iff, List.filter_eq_nil_iff]
  simp [mem_allSlots]

theorem State.settled_iff {s : State} : s.settled = true ↔ s.window = [] ∧ ∀ k, s.slot k = none := by
  unfold State.settled
  rw [Bool.and_eq_true, List.isEmpty_iff, beq_iff_eq, State.liveCount_eq_zero]

/-- The number of records that a slot's content holds. -/
def slotRecords : Option Live → Nat
  | none => 0
  | some l => l.event.records.length

theorem State.buildRecords_eq (s : State) : s.buildRecords = ∑ k : Slot, slotRecords (s.slot k) := by
  exact (Fin.sum_univ_def (fun k : Slot => slotRecords (s.slot k))).symm

/-- Writing a slot exchanges its records for the new content's. -/
theorem State.buildRecords_setSlot (s : State) (k : Slot) (o : Option Live) :
    (s.setSlot k o).buildRecords + slotRecords (s.slot k) = s.buildRecords + slotRecords o := by
  rw [State.buildRecords_eq, State.buildRecords_eq, ← Finset.add_sum_erase _ _ (Finset.mem_univ k),
    ← Finset.add_sum_erase (a := k) _ (fun j => slotRecords (s.slot j)) (Finset.mem_univ k)]
  have : ∑ j ∈ Finset.univ.erase k, slotRecords ((s.setSlot k o).slot j)
      = ∑ j ∈ Finset.univ.erase k, slotRecords (s.slot j) := by
    apply Finset.sum_congr rfl
    intro j hj
    rw [State.slot_setSlot_ne s o (Finset.ne_of_mem_erase hj)]
  rw [this, State.slot_setSlot_self]
  omega

/-- The records under build depend on the slots alone. -/
theorem State.buildRecords_congr {s t : State} (h : s.slots = t.slots) : s.buildRecords = t.buildRecords := by
  rw [State.buildRecords_eq, State.buildRecords_eq]
  exact Finset.sum_congr rfl (fun k _ => by rw [State.slot_congr h])

/-- The free-slot count depends on the slots and the Event Queue alone. -/
theorem State.freeSlots_congr {s t : State} (h : s.slots = t.slots) (q : s.queue = t.queue) :
    s.freeSlots = t.freeSlots := by
  unfold State.freeSlots State.queueRecords
  rw [State.buildRecords_congr h, q]

end Sys2Proof.Machine
end

