-- ==== Sys2Proof/Laws/Ops.lean ====
section
/-! SUPPORT. What each composed operation can change: an equation that names the fields it may set. A proof rewrites with
the equation where it needs a field that the operation leaves. -/

namespace Sys2Proof.Machine

/-- What handOver may change. -/
theorem State.handOver_eq (s : State) (k : Slot) : s.handOver k =
    { s with
      slots := (s.handOver k).slots, queue := (s.handOver k).queue, framer := (s.handOver k).framer } := by
  unfold State.handOver; split
  · rfl
  · rw [State.rechoose_eq]; rfl

/-- What park may change. -/
theorem State.park_eq (s : State) (k : Slot) : s.park k =
    { s with slots := (s.park k).slots, parking := (s.park k).parking } := by
  unfold State.park; split <;> rfl

/-- What handOn may change. -/
theorem State.handOn_eq (s : State) (k : Slot) : s.handOn k =
    { s with
      slots := (s.handOn k).slots, queue := (s.handOn k).queue, framer := (s.handOn k).framer,
      parking := (s.handOn k).parking } := by
  unfold State.handOn; split
  · rw [State.handOver_eq]
  · rw [State.park_eq]

/-- What serving the parking list may change. -/
theorem serveParking_eq (l : List Slot) (s : State) : serveParking l s =
    { s with
      slots := (serveParking l s).slots, queue := (serveParking l s).queue, framer := (serveParking l s).framer,
             parking := (serveParking l s).parking } := by
  induction l generalizing s with
  | nil => rfl
  | cons k l ih =>
    unfold serveParking
    split
    · rw [ih, State.handOver_eq]
    · rfl

/-- What placesFreed may change. -/
theorem State.placesFreed_eq (s : State) : s.placesFreed =
    { s with
      slots := s.placesFreed.slots, queue := s.placesFreed.queue, framer := s.placesFreed.framer,
      parking := s.placesFreed.parking } := by
  unfold State.placesFreed; exact serveParking_eq s.parking s

/-- What unmarkAll may change. -/
theorem State.unmarkAll_eq (s : State) (k : Slot) : s.unmarkAll k =
    { s with window := (s.unmarkAll k).window } := by
  rfl

/-- What discard may change. -/
theorem State.discard_eq (s : State) (k : Slot) : s.discard k =
    { s with
      window := (s.discard k).window, slots := (s.discard k).slots, suspended := (s.discard k).suspended,
      recState := (s.discard k).recState, flags := (s.discard k).flags } := by
  unfold State.discard; split
  · rfl
  · rw [State.drainTest_eq, State.storeChanged_eq]; split <;> rfl

/-- What countDiscard may change. -/
theorem State.countDiscard_eq (s : State) (r : DiscardReason) : s.countDiscard r =
    { s with
      counters := (s.countDiscard r).counters, flags := (s.countDiscard r).flags } := by
  cases r <;> rfl

/-- What discardReported may change. -/
theorem State.discardReported_eq (s : State) (k : Slot) (r : DiscardReason) : s.discardReported k r =
    { s with
      window := (s.discardReported k r).window, slots := (s.discardReported k r).slots,
      suspended := (s.discardReported k r).suspended, recState := (s.discardReported k r).recState,
      flags := (s.discardReported k r).flags, counters := (s.discardReported k r).counters,
      notices := (s.discardReported k r).notices, framer := (s.discardReported k r).framer } := by
  unfold State.discardReported; split
  · rfl
  · rw [State.notify_eq, State.countDiscard_eq, State.discard_eq]

/-- What refuse may change. -/
theorem State.refuse_eq (s : State) (a : Arrival) (r : RefuseReason) : s.refuse a r =
    { s with
      counters := (s.refuse a r).counters, flags := (s.refuse a r).flags, notices := (s.refuse a r).notices,
      framer := (s.refuse a r).framer } := by
  unfold State.refuse; rw [State.notify_eq]; rfl

/-- What admitInto may change. -/
theorem State.admitInto_eq (s : State) (a : Arrival) (k : Slot) : s.admitInto a k =
    { s with
      deviceTag := (s.admitInto a k).deviceTag, slots := (s.admitInto a k).slots,
      window := (s.admitInto a k).window } := by
  rfl

/-- What arrive may change. -/
theorem State.arrive_eq (s : State) (a : Arrival) : s.arrive a =
    { s with
      deviceTag := (s.arrive a).deviceTag, slots := (s.arrive a).slots, window := (s.arrive a).window,
      counters := (s.arrive a).counters, flags := (s.arrive a).flags, notices := (s.arrive a).notices,
      framer := (s.arrive a).framer } := by
  unfold State.arrive; split
  · rfl
  · rw [State.refuse_eq]
  · rfl
  · split
    · rfl
    · rw [State.admitInto_eq]

/-- What addMissed may change. -/
theorem State.addMissed_eq (s : State) (n : Nat) (k : Slot) : s.addMissed n k =
    { s with slots := (s.addMissed n k).slots } := by
  unfold State.addMissed; split <;> rfl

/-- What countThrottle may change. -/
theorem State.countThrottle_eq (s : State) : s.countThrottle =
    { s with
      throttleCount := s.countThrottle.throttleCount, owed := s.countThrottle.owed,
      suspended := s.countThrottle.suspended, counters := s.countThrottle.counters,
      flags := s.countThrottle.flags } := by
  unfold State.countThrottle; split
  · split <;> rfl
  · rfl

/-- What countIf may change. -/
theorem State.countIf_eq (s : State) (o : CountOrder) : s.countIf o =
    { s with
      throttleCount := (s.countIf o).throttleCount, owed := (s.countIf o).owed,
      suspended := (s.countIf o).suspended, counters := (s.countIf o).counters, flags := (s.countIf o).flags } := by
  unfold State.countIf; split
  · rw [State.countThrottle_eq]
  · rfl

/-- What offerRecord may change. -/
theorem State.offerRecord_eq (s : State) (r : Record) (k : Slot) : s.offerRecord r k =
    { s with
      slots := (s.offerRecord r k).slots, counters := (s.offerRecord r k).counters,
      flags := (s.offerRecord r k).flags } := by
  unfold State.offerRecord; split
  · rfl
  · dsimp only
    split
    · split <;> rfl
    · rfl

/-- What the offers of one record may change. -/
theorem foldl_offerRecord_eq (r : Record) (s : State) (l : List Slot) : l.foldl (fun t k => t.offerRecord r k) s =
    { s with
      slots := (l.foldl (fun t k => t.offerRecord r k) s).slots,
      counters := (l.foldl (fun t k => t.offerRecord r k) s).counters,
      flags := (l.foldl (fun t k => t.offerRecord r k) s).flags } := by
  induction l generalizing s with
  | nil => rfl
  | cons a l ih =>
    rw [List.foldl_cons, ih, State.offerRecord_eq]

/-- What detach may change. -/
theorem State.detach_eq (s : State) (e : Entry) : s.detach e =
    { s with ott := (s.detach e).ott } := by
  rfl

/-- What expireEntry may change. -/
theorem State.expireEntry_eq (s : State) (e : Entry) : s.expireEntry e =
    { s with
      slots := (s.expireEntry e).slots, counters := (s.expireEntry e).counters, flags := (s.expireEntry e).flags,
      ott := (s.expireEntry e).ott } := by
  unfold State.expireEntry; dsimp only
  split
  · rw [State.detach_eq, foldl_offerRecord_eq]
  · rw [foldl_offerRecord_eq]

/-- What the leaving of entries may change. -/
theorem foldl_expireEntry_eq (s : State) (l : List Entry) : l.foldl State.expireEntry s =
    { s with
      slots := (l.foldl State.expireEntry s).slots, counters := (l.foldl State.expireEntry s).counters,
      flags := (l.foldl State.expireEntry s).flags, ott := (l.foldl State.expireEntry s).ott } := by
  induction l generalizing s with
  | nil => rfl
  | cons a l ih =>
    rw [List.foldl_cons, ih, State.expireEntry_eq]

/-- What expire may change. -/
theorem State.expire_eq (s : State) (h : Tick) : s.expire h =
    { s with
      slots := (s.expire h).slots, counters := (s.expire h).counters, flags := (s.expire h).flags,
      ott := (s.expire h).ott, window := (s.expire h).window } := by
  unfold State.expire; rw [foldl_expireEntry_eq]

/-- What endCollection may change. -/
theorem State.endCollection_eq (s : State) (k : Slot) : s.endCollection k =
    { s with
      slots := (s.endCollection k).slots, queue := (s.endCollection k).queue, framer := (s.endCollection k).framer,
      parking := (s.endCollection k).parking } := by
  unfold State.endCollection; split
  · rfl
  · dsimp only
    split
    · rfl
    · rw [State.handOn_eq]; rfl

/-- What the report may change in one slot's turn. -/
theorem State.reportSlot_eq (h : Tick) (s : State) (k : Slot) : State.reportSlot h s k =
    { s with
      slots := (State.reportSlot h s k).slots, queue := (State.reportSlot h s k).queue,
             framer := (State.reportSlot h s k).framer, parking := (State.reportSlot h s k).parking } := by
  unfold State.reportSlot; split
  · rfl
  · split
    · rw [State.endCollection_eq]
    · rfl

/-- What the report may change over some slots. -/
theorem foldl_reportSlot_eq (h : Tick) (s : State) (l : List Slot) : l.foldl (State.reportSlot h) s =
    { s with
      slots := (l.foldl (State.reportSlot h) s).slots, queue := (l.foldl (State.reportSlot h) s).queue,
      framer := (l.foldl (State.reportSlot h) s).framer, parking := (l.foldl (State.reportSlot h) s).parking } := by
  induction l generalizing s with
  | nil => rfl
  | cons a l ih =>
    rw [List.foldl_cons, ih, State.reportSlot_eq]

/-- What report may change. -/
theorem State.report_eq (s : State) (h : Tick) : s.report h =
    { s with
      slots := (s.report h).slots, queue := (s.report h).queue, framer := (s.report h).framer,
      parking := (s.report h).parking } := by
  unfold State.report; rw [foldl_reportSlot_eq]

/-- What advanceHorizon may change. -/
theorem State.advanceHorizon_eq (s : State) : s.advanceHorizon =
    { s with
      horizon := s.advanceHorizon.horizon, owed := s.advanceHorizon.owed, window := s.advanceHorizon.window,
      slots := s.advanceHorizon.slots, counters := s.advanceHorizon.counters, flags := s.advanceHorizon.flags,
      ott := s.advanceHorizon.ott, queue := s.advanceHorizon.queue, framer := s.advanceHorizon.framer,
      parking := s.advanceHorizon.parking, recState := s.advanceHorizon.recState,
      throttleCount := s.advanceHorizon.throttleCount, suspended := s.advanceHorizon.suspended } := by
  unfold State.advanceHorizon; dsimp only
  rw [State.countIf_eq, State.drainTest_eq, State.report_eq, State.expire_eq]

/-- What deadlineSlot may change. -/
theorem State.deadlineSlot_eq (s : State) (k : Slot) : s.deadlineSlot k =
    { s with
      window := (s.deadlineSlot k).window, slots := (s.deadlineSlot k).slots,
      suspended := (s.deadlineSlot k).suspended, recState := (s.deadlineSlot k).recState,
      flags := (s.deadlineSlot k).flags, counters := (s.deadlineSlot k).counters,
      notices := (s.deadlineSlot k).notices, framer := (s.deadlineSlot k).framer } := by
  unfold State.deadlineSlot; split
  · rfl
  · split
    · rw [State.discardReported_eq]
    · rfl

/-- What the deadlines may change over some slots. -/
theorem foldl_deadlineSlot_eq (s : State) (l : List Slot) : l.foldl State.deadlineSlot s =
    { s with
      window := (l.foldl State.deadlineSlot s).window, slots := (l.foldl State.deadlineSlot s).slots,
      suspended := (l.foldl State.deadlineSlot s).suspended, recState := (l.foldl State.deadlineSlot s).recState,
      flags := (l.foldl State.deadlineSlot s).flags, counters := (l.foldl State.deadlineSlot s).counters,
      notices := (l.foldl State.deadlineSlot s).notices, framer := (l.foldl State.deadlineSlot s).framer } := by
  induction l generalizing s with
  | nil => rfl
  | cons a l ih =>
    rw [List.foldl_cons, ih, State.deadlineSlot_eq]

/-- What takeDeadlines may change. -/
theorem State.takeDeadlines_eq (s : State) : s.takeDeadlines =
    { s with
      owed := s.takeDeadlines.owed, throttleCount := s.takeDeadlines.throttleCount,
      window := s.takeDeadlines.window, slots := s.takeDeadlines.slots, suspended := s.takeDeadlines.suspended,
      recState := s.takeDeadlines.recState, flags := s.takeDeadlines.flags, counters := s.takeDeadlines.counters,
      notices := s.takeDeadlines.notices, framer := s.takeDeadlines.framer } := by
  unfold State.takeDeadlines; rw [State.countIf_eq, foldl_deadlineSlot_eq]

/-- What createEntry may change. -/
theorem State.createEntry_eq (s : State) (r : Request) : s.createEntry r =
    { s with
      window := (s.createEntry r).window, seq := (s.createEntry r).seq, ott := (s.createEntry r).ott } := by
  rfl

/-- What adding to missed counts may change. -/
theorem foldl_addMissed_eq (n : Nat) (s : State) (l : List Slot) : l.foldl (fun t k => t.addMissed n k) s =
    { s with slots := (l.foldl (fun t k => t.addMissed n k) s).slots } := by
  induction l generalizing s with
  | nil => rfl
  | cons a l ih =>
    rw [List.foldl_cons, ih, State.addMissed_eq]

/-- What dropRequest may change. -/
theorem State.dropRequest_eq (s : State) (r : Request) : s.dropRequest r =
    { s with
      seq := (s.dropRequest r).seq, ott := (s.dropRequest r).ott, counters := (s.dropRequest r).counters,
      flags := (s.dropRequest r).flags, slots := (s.dropRequest r).slots } := by
  unfold State.dropRequest; dsimp only
  rw [foldl_addMissed_eq]; rfl

/-- What fireMatch may change. -/
theorem State.fireMatch_eq (s : State) (r : Request) : s.fireMatch r =
    { s with
      deviceTag := (s.fireMatch r).deviceTag, slots := (s.fireMatch r).slots, window := (s.fireMatch r).window,
      counters := (s.fireMatch r).counters, flags := (s.fireMatch r).flags, notices := (s.fireMatch r).notices,
      framer := (s.fireMatch r).framer } := by
  unfold State.fireMatch; split
  · rw [State.arrive_eq]
  · rfl

/-- What recordRequest may change. -/
theorem State.recordRequest_eq (s : State) (r : Request) : s.recordRequest r =
    { s with
      window := (s.recordRequest r).window, seq := (s.recordRequest r).seq, ott := (s.recordRequest r).ott,
      counters := (s.recordRequest r).counters, flags := (s.recordRequest r).flags,
      slots := (s.recordRequest r).slots, deviceTag := (s.recordRequest r).deviceTag,
      notices := (s.recordRequest r).notices, framer := (s.recordRequest r).framer } := by
  unfold State.recordRequest; split
  · rw [State.fireMatch_eq, State.createEntry_eq]
  · rw [State.fireMatch_eq, State.dropRequest_eq]

/-- What takeRequest may change. -/
theorem State.takeRequest_eq (s : State) (r : Request) : s.takeRequest r =
    { s with
      window := (s.takeRequest r).window, seq := (s.takeRequest r).seq, ott := (s.takeRequest r).ott,
      counters := (s.takeRequest r).counters, flags := (s.takeRequest r).flags, slots := (s.takeRequest r).slots,
      deviceTag := (s.takeRequest r).deviceTag, notices := (s.takeRequest r).notices,
      framer := (s.takeRequest r).framer, reqQueue := (s.takeRequest r).reqQueue } := by
  unfold State.takeRequest; dsimp only
  split
  · rw [State.recordRequest_eq]
  · rfl

/-- What acceptRequest may change. -/
theorem State.acceptRequest_eq (s : State) (t : ReqTransfer) : s.acceptRequest t =
    { s with
      window := (s.acceptRequest t).window, seq := (s.acceptRequest t).seq, ott := (s.acceptRequest t).ott,
      counters := (s.acceptRequest t).counters, flags := (s.acceptRequest t).flags,
      slots := (s.acceptRequest t).slots, deviceTag := (s.acceptRequest t).deviceTag,
      notices := (s.acceptRequest t).notices, framer := (s.acceptRequest t).framer,
      reqQueue := (s.acceptRequest t).reqQueue, uqAssembly := (s.acceptRequest t).uqAssembly } := by
  unfold State.acceptRequest; split
  · split
    · rfl
    · split
      · rw [State.takeRequest_eq]
      · rfl
  · split
    · rfl
    · split
      · rw [State.takeRequest_eq]
      · rfl
  · rfl
  · rfl

/-- What request transfers may change. -/
theorem foldl_acceptRequest_eq (s : State) (l : List ReqTransfer) : l.foldl State.acceptRequest s =
    { s with
      window := (l.foldl State.acceptRequest s).window, seq := (l.foldl State.acceptRequest s).seq,
      ott := (l.foldl State.acceptRequest s).ott, counters := (l.foldl State.acceptRequest s).counters,
      flags := (l.foldl State.acceptRequest s).flags, slots := (l.foldl State.acceptRequest s).slots,
      deviceTag := (l.foldl State.acceptRequest s).deviceTag, notices := (l.foldl State.acceptRequest s).notices,
      framer := (l.foldl State.acceptRequest s).framer, reqQueue := (l.foldl State.acceptRequest s).reqQueue,
      uqAssembly := (l.foldl State.acceptRequest s).uqAssembly } := by
  induction l generalizing s with
  | nil => rfl
  | cons a l ih =>
    rw [List.foldl_cons, ih, State.acceptRequest_eq]

/-- What fill may change. -/
theorem State.fill_eq (s : State) (l : Link) (ts : List RespTransfer) (m : Bool) : s.fill l ts m =
    { s with window := (s.fill l ts m).window } := by
  rfl

/-- What settleLink may change. -/
theorem State.settleLink_eq (s : State) (i : OttItem) (ts : List RespTransfer) : s.settleLink i ts =
    { s with
      window := (s.settleLink i ts).window, counters := (s.settleLink i ts).counters } := by
  unfold State.settleLink; split
  · rw [State.fill_eq]
  · rfl
  · rfl

/-- What orphan may change. -/
theorem State.orphan_eq (s : State) (ts : List RespTransfer) : s.orphan ts =
    { s with
      counters := (s.orphan ts).counters, flags := (s.orphan ts).flags, notices := (s.orphan ts).notices,
      framer := (s.orphan ts).framer } := by
  unfold State.orphan; rw [State.notify_eq]; rfl

/-- What pair may change. -/
theorem State.pair_eq (s : State) (ts : List RespTransfer) : s.pair ts =
    { s with
      ott := (s.pair ts).ott, window := (s.pair ts).window, counters := (s.pair ts).counters,
      flags := (s.pair ts).flags, notices := (s.pair ts).notices, framer := (s.pair ts).framer } := by
  unfold State.pair; split
  · rw [State.settleLink_eq]
  · rw [State.orphan_eq]

/-- What fireFault may change. -/
theorem State.fireFault_eq (s : State) (ts : List RespTransfer) : s.fireFault ts =
    { s with
      deviceTag := (s.fireFault ts).deviceTag, slots := (s.fireFault ts).slots, window := (s.fireFault ts).window,
      counters := (s.fireFault ts).counters, flags := (s.fireFault ts).flags, notices := (s.fireFault ts).notices,
      framer := (s.fireFault ts).framer } := by
  unfold State.fireFault; split
  · rw [State.arrive_eq]
  · rfl

/-- What takeResponse may change. -/
theorem State.takeResponse_eq (s : State) (ts : List RespTransfer) : s.takeResponse ts =
    { s with
      ott := (s.takeResponse ts).ott, window := (s.takeResponse ts).window,
      counters := (s.takeResponse ts).counters, flags := (s.takeResponse ts).flags,
      notices := (s.takeResponse ts).notices, framer := (s.takeResponse ts).framer,
      deviceTag := (s.takeResponse ts).deviceTag, slots := (s.takeResponse ts).slots,
      respQueue := (s.takeResponse ts).respQueue } := by
  unfold State.takeResponse; dsimp only
  rw [State.fireFault_eq, State.pair_eq]

/-- What acceptResponse may change. -/
theorem State.acceptResponse_eq (s : State) (t : RespTransfer) : s.acceptResponse t =
    { s with
      ott := (s.acceptResponse t).ott, window := (s.acceptResponse t).window,
      counters := (s.acceptResponse t).counters, flags := (s.acceptResponse t).flags,
      notices := (s.acceptResponse t).notices, framer := (s.acceptResponse t).framer,
      deviceTag := (s.acceptResponse t).deviceTag, slots := (s.acceptResponse t).slots,
      respQueue := (s.acceptResponse t).respQueue, mpAssembly := (s.acceptResponse t).mpAssembly } := by
  unfold State.acceptResponse; split
  · rfl
  · split
    · rw [State.takeResponse_eq]
    · rfl

/-- What response transfers may change. -/
theorem foldl_acceptResponse_eq (s : State) (l : List RespTransfer) : l.foldl State.acceptResponse s =
    { s with
      ott := (l.foldl State.acceptResponse s).ott, window := (l.foldl State.acceptResponse s).window,
      counters := (l.foldl State.acceptResponse s).counters, flags := (l.foldl State.acceptResponse s).flags,
      notices := (l.foldl State.acceptResponse s).notices, framer := (l.foldl State.acceptResponse s).framer,
      deviceTag := (l.foldl State.acceptResponse s).deviceTag, slots := (l.foldl State.acceptResponse s).slots,
      respQueue := (l.foldl State.acceptResponse s).respQueue,
      mpAssembly := (l.foldl State.acceptResponse s).mpAssembly } := by
  induction l generalizing s with
  | nil => rfl
  | cons a l ih =>
    rw [List.foldl_cons, ih, State.acceptResponse_eq]

/-- What charging a slot for flushed entries may change. -/
theorem chargeFlush_eq (m : Slot → Nat) (s : State) (k : Slot) : chargeFlush m s k =
    { s with slots := (chargeFlush m s k).slots } := by
  unfold chargeFlush; split
  · rfl
  · split
    · rw [State.addMissed_eq]
    · rfl

/-- What charging slots for flushed entries may change. -/
theorem foldl_chargeFlush_eq (m : Slot → Nat) (s : State) (l : List Slot) : l.foldl (chargeFlush m) s =
    { s with slots := (l.foldl (chargeFlush m) s).slots } := by
  induction l generalizing s with
  | nil => rfl
  | cons a l ih =>
    rw [List.foldl_cons, ih, chargeFlush_eq]

/-- What flushWindow may change. -/
theorem State.flushWindow_eq (s : State) : s.flushWindow =
    { s with
      window := s.flushWindow.window, ott := s.flushWindow.ott, slots := s.flushWindow.slots } := by
  unfold State.flushWindow; rw [foldl_chargeFlush_eq]

/-- What flushSlot may change. -/
theorem State.flushSlot_eq (s : State) (k : Slot) : s.flushSlot k =
    { s with window := (s.flushSlot k).window, slots := (s.flushSlot k).slots } := by
  unfold State.flushSlot; split
  · rfl
  · split <;> rfl

/-- What flushing slots may change. -/
theorem foldl_flushSlot_eq (s : State) (l : List Slot) : l.foldl State.flushSlot s =
    { s with
      window := (l.foldl State.flushSlot s).window, slots := (l.foldl State.flushSlot s).slots } := by
  induction l generalizing s with
  | nil => rfl
  | cons a l ih =>
    rw [List.foldl_cons, ih, State.flushSlot_eq]

/-- What flushTriggers may change. -/
theorem State.flushTriggers_eq (s : State) : s.flushTriggers =
    { s with
      window := s.flushTriggers.window, slots := s.flushTriggers.slots, parking := s.flushTriggers.parking,
      suspended := s.flushTriggers.suspended } := by
  unfold State.flushTriggers; rw [State.storeChanged_eq, foldl_flushSlot_eq]

/-- What flushEvents may change. -/
theorem State.flushEvents_eq (s : State) : s.flushEvents =
    { s with
      queue := s.flushEvents.queue, suspended := s.flushEvents.suspended, slots := s.flushEvents.slots,
      parking := s.flushEvents.parking, framer := s.flushEvents.framer } := by
  unfold State.flushEvents; rw [State.rechoose_eq, State.placesFreed_eq, State.storeChanged_eq]

/-- What flushNotices may change. -/
theorem State.flushNotices_eq (s : State) : s.flushNotices =
    { s with notices := s.flushNotices.notices, framer := s.flushNotices.framer } := by
  unfold State.flushNotices; rw [State.rechoose_eq]

/-- What flushCounters may change. -/
theorem State.flushCounters_eq (s : State) : s.flushCounters =
    { s with counters := s.flushCounters.counters } := by
  rfl

/-- What a FLUSH may change. -/
theorem State.flushSelected_eq (s : State) (sel : Byte) : s.flushSelected sel =
    { s with
      window := (s.flushSelected sel).window, ott := (s.flushSelected sel).ott,
      slots := (s.flushSelected sel).slots, parking := (s.flushSelected sel).parking,
      suspended := (s.flushSelected sel).suspended, queue := (s.flushSelected sel).queue,
      framer := (s.flushSelected sel).framer, notices := (s.flushSelected sel).notices,
      counters := (s.flushSelected sel).counters } := by
  have step : ∀ (c : Bool) (t u : State) (op : State → State),
      (∃ a b c d e f g i j, t = { s with
        window := a, ott := b, slots := c, parking := d, suspended := e, queue := f, framer := g, notices := i,
        counters := j }) →
      (∀ v : State, ∃ a b c d e f g i j, op v = { v with
        window := a, ott := b, slots := c, parking := d, suspended := e, queue := f, framer := g, notices := i,
        counters := j }) →
      u = (if c then op t else t) →
      ∃ a b c d e f g i j, u = { s with
        window := a, ott := b, slots := c, parking := d, suspended := e, queue := f, framer := g, notices := i,
        counters := j } := by
    intro c t u op ht hop hu
    cases c
    · rw [hu]; exact ht
    · obtain ⟨_, _, _, _, _, _, _, _, _, hv⟩ := hop t
      obtain ⟨_, _, _, _, _, _, _, _, _, ht⟩ := ht
      rw [hu, if_pos rfl, hv, ht]
      exact ⟨_, _, _, _, _, _, _, _, _, rfl⟩
  have h0 := step (sel.getLsbD 0) s _ State.flushWindow ⟨_, _, _, _, _, _, _, _, _, rfl⟩
    (fun v => ⟨_, _, _, _, _, _, _, _, _, State.flushWindow_eq v⟩) rfl
  have h1 := step (sel.getLsbD 1) _ _ State.flushTriggers h0
    (fun v => ⟨_, _, _, _, _, _, _, _, _, State.flushTriggers_eq v⟩) rfl
  have h2 := step (sel.getLsbD 2) _ _ State.flushEvents h1
    (fun v => ⟨_, _, _, _, _, _, _, _, _, State.flushEvents_eq v⟩) rfl
  have h3 := step (sel.getLsbD 3) _ _ State.flushNotices h2
    (fun v => ⟨_, _, _, _, _, _, _, _, _, State.flushNotices_eq v⟩) rfl
  obtain ⟨_, _, _, _, _, _, _, _, _, h⟩ := step (sel.getLsbD 4) _ (s.flushSelected sel) State.flushCounters h3
    (fun v => ⟨_, _, _, _, _, _, _, _, _, State.flushCounters_eq v⟩) rfl
  rw [h]

/-- What eventLeaves may change. -/
theorem State.eventLeaves_eq (s : State) : s.eventLeaves =
    { s with
      queue := s.eventLeaves.queue, inTransmission := s.eventLeaves.inTransmission,
      prevAddr := s.eventLeaves.prevAddr, burst := s.eventLeaves.burst, counters := s.eventLeaves.counters,
      slots := s.eventLeaves.slots, framer := s.eventLeaves.framer, parking := s.eventLeaves.parking,
      recState := s.eventLeaves.recState, flags := s.eventLeaves.flags } := by
  unfold State.eventLeaves; rw [State.drainTest_eq, State.placesFreed_eq]; rfl

/-- What freeRecord may change. -/
theorem State.freeRecord_eq (s : State) : s.freeRecord =
    { s with queue := s.freeRecord.queue, suspended := s.freeRecord.suspended } := by
  unfold State.freeRecord; rw [State.storeChanged_eq]

/-- What applyWrite may change. -/
theorem State.applyWrite_eq (s : State) (r : Reg) : s.applyWrite r =
    { s with
      horizon := (s.applyWrite r).horizon, framer := (s.applyWrite r).framer } := by
  cases r <;> first | rfl | (unfold State.applyWrite; dsimp only; rw [State.rechoose_eq])

/-- What writeReg may change. -/
theorem State.writeReg_eq (s : State) (n : Byte) (v : Word) : s.writeReg n v =
    { s with
      regs := (s.writeReg n v).regs, horizon := (s.writeReg n v).horizon, framer := (s.writeReg n v).framer } := by
  unfold State.writeReg; split
  · rw [State.applyWrite_eq]
  · rfl

end Sys2Proof.Machine
end

