-- ==== Sys2Proof/Laws/Link.lean ====
section
/-! SUPPORT. The open link, the entry of a tag, and the register numbers. -/

namespace Sys2Proof.Machine

/-- An open link carries a frame out (R151, R158). -/
theorem State.onLink_open {s : State} (hr : s.rst = false) (hc : s.csIgnore = false) (f : State → State) :
    s.onLink f = f s := by
  unfold State.onLink State.linkOpen; simp [hr, hc]

/-- A closed link takes no frame (R158). -/
theorem State.onLink_closed {s : State} (h : s.rst = true ∨ s.csIgnore = true) (f : State → State) :
    s.onLink f = s := by
  unfold State.onLink State.linkOpen; rcases h with h | h <;> simp [h]

/-- The slot of a tag that a live entry holds, where tags are distinct (R25). -/
theorem State.findTag_of_live {s : State} (hs : TagsSound s) {k : Slot} {l : Live} (hk : s.slot k = some l) :
    s.findTag l.tag = some k :=
  State.findTag_eq_some_of hk rfl (fun j a hj ha => hs.1 j k a l hj hk ha)

/-- The register numbers name registers up to 62 and none above (11.1). -/
theorem regOfNum_eq_none (n : Byte) : regOfNum n = none ↔ 62 < n := by
  have h : regTable.length = 63 := rfl
  unfold regOfNum
  rw [List.getElem?_eq_none_iff, h, BitVec.lt_def]
  exact Nat.succ_le_iff

/-- A setting written reads as the value written (R160, R186). -/
theorem State.regValue_put_self (s : State) (r : Reg) (v : Word) (h : regReadOnly r = false) :
    ({ s with regs := s.regs.put r v } : State).regValue r = v := by
  cases r with
  | unit k f =>
    show (MatchUnit.get (Vector.get _ k) f) = v
    simp only [Settings.put, Vector.get_eq_getElem, Vector.getElem_set_self]
    cases f <;> rfl
  | _ => first | rfl | exact absurd h (by decide) | (rename_i c; exact absurd h (by cases c <;> decide))

end Sys2Proof.Machine
end

