-- ==== Sys2Proof/Laws/Path.lean ====
section
/-! SUPPORT. The taking of a request and of a response that arrive whole, the free entry place, and missed counts. -/

namespace Sys2Proof.Machine

/-- No hold reason applies: RESET does not. -/
theorem State.resetHold_of_not_held {s : State} (h : s.held = false) : s.resetHold = false := by
  unfold State.held at h; simp_all

/-- The beats of a WRITE in assembly run to its taking (R106). -/
theorem foldl_acceptRequest_beats (h : ReqHeader) : ∀ (bs : List WriteBeat) (acc : List WriteBeat) (s : State),
    s.rst = false → s.mrst = false → bs ≠ [] → acc.length + bs.length = h.len →
    (bs.map ReqTransfer.beat).foldl State.acceptRequest { s with uqAssembly := some ⟨h, acc⟩ } =
      ({ s with uqAssembly := none } : State).takeRequest ⟨h, acc ++ bs⟩ := by
  intro bs
  induction bs with
  | nil => intro acc s _ _ h; exact absurd rfl h
  | cons b bs ih =>
    intro acc s hr hm _ hl
    have hh : State.resetHold { s with uqAssembly := some ⟨h, acc⟩ } = false := by
      simp [State.resetHold, hr, hm]
    rw [List.map_cons, List.foldl_cons]
    have hstep : State.acceptRequest { s with uqAssembly := some ⟨h, acc⟩ } (.beat b) =
        if h.len ≤ acc.length + 1 then ({ s with uqAssembly := none } : State).takeRequest ⟨h, acc ++ [b]⟩
        else { s with uqAssembly := some ⟨h, acc ++ [b]⟩ } := by
      unfold State.acceptRequest
      simp only [hh]
      simp
    rw [hstep]
    cases bs with
    | nil =>
      rw [if_pos (by simp at hl; omega)]
      rfl
    | cons c cs =>
      rw [if_neg (by simp at hl; omega)]
      rw [ih (acc ++ [b]) s hr hm (by simp) (by simp at hl ⊢; omega)]
      simp

/-- A request that arrives whole while nothing holds it is taken (R106). -/
theorem exec_requestTaken_whole {s : State} {r : Request} (hw : r.whole) (ho : requestOpen s) :
    exec (.requestTaken r.transfers) s = .next (s.takeRequest r) := by
  obtain ⟨hn, hh⟩ := ho
  have hrs := State.resetHold_of_not_held hh
  have hrm : s.rst = false ∧ s.mrst = false := by simpa [State.resetHold] using hrs
  simp only [exec, execRequestTaken, Request.transfers, List.foldl_cons]
  congr 1
  cases hk : r.header.kind with
  | read =>
    have hb : r.beats = [] := by simpa [Request.whole, hk] using hw
    have : s.acceptRequest (.header r.header) = s.takeRequest ⟨r.header, []⟩ := by
      unfold State.acceptRequest; rw [hn]; simp [hh, hk]
    rw [this, hb]; simp only [List.map_nil, List.foldl_nil]
    congr 1; cases r; simp_all
  | write =>
    obtain ⟨h1, h2⟩ : 1 ≤ r.header.len ∧ r.beats.length = r.header.len := by simpa [Request.whole, hk] using hw
    have : s.acceptRequest (.header r.header) = { s with uqAssembly := some ⟨r.header, []⟩ } := by
      unfold State.acceptRequest; rw [hn]; simp [hh, hk]
    rw [this, foldl_acceptRequest_beats r.header r.beats [] s hrm.1 hrm.2 (by intro h; simp [h] at h2; omega) (by simp [h2])]
    have : ({ s with uqAssembly := none } : State) = s := by cases s; simp_all
    rw [this]; simp

/-- A window that is not full has a free place, and a new entry gets one (log 13). -/
theorem State.freePlace_spec {s : State} (h : s.window.length < 512) :
    s.freePlace < 512 ∧ ∀ e ∈ s.window, e.place ≠ s.freePlace := by
  unfold State.freePlace
  cases hf : (List.range Config.windowPlaces).find? (fun p => s.window.all (fun e => e.place != p)) with
  | some p =>
    have := List.find?_some hf
    have hm := List.mem_of_find?_eq_some hf
    simp at this hm ⊢
    exact ⟨hm, this⟩
  | none =>
    exfalso
    rw [List.find?_eq_none] at hf
    have hsub : (List.range 512) ⊆ s.window.map Entry.place := by
      intro p hp
      have := hf p hp
      simp at this
      obtain ⟨e, he, hpe⟩ := this
      exact List.mem_map.2 ⟨e, he, hpe⟩
    have := List.Subperm.length_le (List.Nodup.subperm (List.nodup_range (n := 512)) hsub)
    simp at this; omega

/-- The slots after missed counts are added to (R73). -/
theorem slot_foldl_addMissed (n : Nat) (l : List Slot) (hn : l.Nodup) (s : State) (j : Slot) :
    (l.foldl (fun t k => t.addMissed n k) s).slot j =
      if j ∈ l then (s.slot j).map (fun v => { v with event := { v.event with missed := satAdd v.event.missed n } })
      else s.slot j := by
  induction l generalizing s with
  | nil => simp
  | cons k l ih =>
    rw [List.foldl_cons, ih (List.nodup_cons.1 hn).2]
    have hk := (List.nodup_cons.1 hn).1
    have hs : (s.addMissed n k).slot j = if j = k then (s.slot j).map (fun v => { v with event := { v.event with missed := satAdd v.event.missed n } }) else s.slot j := by
      unfold State.addMissed
      cases h : s.slot k with
      | none => by_cases hj : j = k
                · subst hj; simp [h]
                · simp [hj]
      | some v => rw [State.slot_setSlot]
                  by_cases hj : j = k
                  · subst hj; simp [h]
                  · simp [hj]
    rw [hs]
    by_cases hj : j = k
    · subst hj; simp [hk]
    · simp [hj]

/-- The transfers of a response that arrives whole take it (R107). -/
theorem foldl_acceptResponse_whole : ∀ (before acc : List RespTransfer) (t : RespTransfer) (s : State),
    s.rst = false → s.mrst = false → (acc = [] → s.respQueue.length < 4) → (∀ u ∈ before, u.last = false) →
    acc.length + before.length < 16 → (t.last = true ∨ acc.length + before.length + 1 = 16) →
    (before ++ [t]).foldl State.acceptResponse { s with mpAssembly := acc } =
      ({ s with mpAssembly := [] } : State).takeResponse (acc ++ before ++ [t]) := by
  intro before
  induction before with
  | nil =>
    intro acc t s hr hm hq _ hl ht
    have h1 : State.resetHold { s with mpAssembly := acc } = false := by simp [State.resetHold, hr, hm]
    have h2 : State.responseRoom { s with mpAssembly := acc } = true := by
      unfold State.responseRoom
      cases acc with
      | nil => simpa using hq rfl
      | cons _ _ => simp
    simp only [List.nil_append, List.foldl_cons, List.foldl_nil]
    unfold State.acceptResponse
    rw [h1, h2]
    have h3 : (t.last || decide (Config.responseTransfers ≤ acc.length + 1)) = true := by
      rcases ht with ht | ht
      · simp [ht]
      · simp [Config.responseTransfers] at ht ⊢; right; omega
    simp only [Bool.not_true, Bool.or_self, Bool.false_eq_true, if_false, List.append_nil]
    rw [if_pos h3]
  | cons u before ih =>
    intro acc t s hr hm hq hu hl ht
    have h1 : State.resetHold { s with mpAssembly := acc } = false := by simp [State.resetHold, hr, hm]
    have h2 : State.responseRoom { s with mpAssembly := acc } = true := by
      unfold State.responseRoom
      cases acc with
      | nil => simpa using hq rfl
      | cons _ _ => simp
    have h3 : State.acceptResponse { s with mpAssembly := acc } u = { s with mpAssembly := acc ++ [u] } := by
      unfold State.acceptResponse
      rw [h1, h2]
      have : (u.last || decide (Config.responseTransfers ≤ acc.length + 1)) = false := by
        simp [Config.responseTransfers] at hl ⊢
        exact ⟨hu u (by simp), by omega⟩
      simp only [Bool.not_true, Bool.or_self, Bool.false_eq_true, if_false]
      rw [if_neg (by rw [this]; simp)]
    rw [List.cons_append, List.foldl_cons, h3,
      ih (acc ++ [u]) t s hr hm (by simp) (fun v hv => hu v (by simp [hv])) (by simp at hl ⊢; omega)
        (by rcases ht with ht | ht
            · exact Or.inl ht
            · right; simp at ht ⊢; omega)]
    simp

/-- A response that arrives whole while its queue has room is taken (R107). -/
theorem exec_responseTaken_whole {s : State} {ts : List RespTransfer} (hw : wholeResponse ts) (ho : responseOpen s) :
    exec (.responseTaken ts) s = .next (s.takeResponse ts) := by
  obtain ⟨before, t, rfl, hb, hl, ht⟩ := hw
  obtain ⟨hr, hm, ha, hq⟩ := ho
  have hs : ({ s with mpAssembly := [] } : State) = s := by cases s; simp_all
  have := foldl_acceptResponse_whole before [] t s hr hm (fun _ => hq) hb (by simpa using hl)
    (by simpa [Config.responseTransfers] using ht)
  rw [hs] at this
  simp only [exec, execResponseTaken, this, List.nil_append]

/-- The OTT without the head item of an ID (R113). -/
theorem withoutHead_append {older newer : List OttItem} {item : OttItem} {id : TxId} (ho : ∀ i ∈ older, i.id ≠ id)
    (hi : item.id = id) : withoutHead (older ++ item :: newer) id = older ++ newer := by
  unfold withoutHead
  rw [List.eraseP_append_right]
  · simp [hi]
  · intro i hm; simpa using ho i hm

/-- The head item of an ID is its oldest (R111). -/
theorem headItem_append {older newer : List OttItem} {item : OttItem} {id : TxId} (ho : ∀ i ∈ older, i.id ≠ id)
    (hi : item.id = id) : headItem (older ++ item :: newer) id = some item := by
  unfold headItem
  rw [List.find?_append, List.find?_eq_none.2 (by intro i hm; simpa using ho i hm)]
  simp [hi]

/-- No item of an ID: the lookup finds none (R114). -/
theorem headItem_none {ott : List OttItem} {id : TxId} (ho : ∀ i ∈ ott, i.id ≠ id) : headItem ott id = none := by
  unfold headItem
  rw [List.find?_eq_none]
  intro i hm; simpa using ho i hm

end Sys2Proof.Machine
end

