-- ==== Sys2Proof/Laws/Choice.lean ====
section
/-! SUPPORT. What the framer's choice, the hold reasons, the end of DRAIN and the merge check read, so that a state that
agrees on those fields gives the same answer. -/

namespace Sys2Proof.Machine

/-- The choice reads eight fields (R135, R136, R149). -/
theorem State.choose_congr {s t : State} (h1 : s.rst = t.rst) (h2 : s.inTransmission = t.inTransmission)
    (h3 : s.restart = t.restart) (h4 : s.notices = t.notices) (h5 : s.regs = t.regs)
    (h6 : s.statusTimer = t.statusTimer) (h7 : s.queue = t.queue) (h8 : s.burst = t.burst) : s.choose = t.choose := by
  unfold State.choose State.restartChoice State.boundaryChoice State.statusDue
  rw [h1, h2, h3, h4, h5, h6, h7, h8]

/-- The next choice does not read the framer's state. -/
theorem State.offer_framer (s : State) (f : Framer) : ({ s with framer := f } : State).offer = s.offer := by
  unfold State.offer
  rw [State.choose_congr (s := { s with framer := f }) (t := s) rfl rfl rfl rfl rfl rfl rfl rfl]

theorem State.storeChanged_with_framer (s : State) (f : Framer) :
    ({ s with framer := f } : State).storeChanged = { s.storeChanged with framer := f } := by
  unfold State.storeChanged
  rw [State.freeSlots_congr (s := { s with framer := f }) (t := s) rfl rfl]
  split <;> rfl

/-- The end of DRAIN reads the window and the slots (R177). -/
theorem State.settled_congr {s t : State} (h1 : s.window = t.window) (h2 : s.slots = t.slots) :
    s.settled = t.settled := by
  have : s.slot = t.slot := funext (State.slot_congr h2)
  unfold State.settled State.liveCount; rw [h1, this]

theorem State.drainTest_with_framer (s : State) (f : Framer) :
    ({ s with framer := f } : State).drainTest = { s.drainTest with framer := f } := by
  unfold State.drainTest
  rw [State.settled_congr (s := { s with framer := f }) (t := s) rfl rfl]
  dsimp only
  split <;> rfl

/-- While a slot is live the test for the end of DRAIN changes nothing (R177). -/
theorem State.drainTest_of_live {s : State} {k : Slot} (h : s.slot k ≠ none) : s.drainTest = s := by
  unfold State.drainTest; rw [if_neg]; rintro ⟨_, b⟩; exact h ((State.settled_iff.1 b).2 k)

/-- THROTTLE reads the recorder state, the settings, the free slots and the suspension (R83, R120). -/
theorem State.throttleHold_congr {s t : State} (h1 : s.recState = t.recState) (h2 : s.regs = t.regs)
    (h3 : s.freeSlots = t.freeSlots) (h4 : s.suspended = t.suspended) : s.throttleHold = t.throttleHold := by
  unfold State.throttleHold; rw [h1, h2, h3, h4]

/-- An entry is named by the link of its seq and place (R8). -/
theorem Entry.namedBy_iff (e : Entry) (q : Word) (p : Nat) :
    e.namedBy (.entry q p) = true ↔ e.seq = q ∧ e.place = p := by
  unfold Entry.namedBy
  rw [beq_iff_eq, Link.entry.injEq]
  constructor <;> rintro ⟨a, b⟩ <;> exact ⟨a.symm, b.symm⟩

/-- The merge check in words (R36). -/
theorem State.covered_iff {s : State} {a : Arrival} : s.covered a = true ↔
    ∃ k l, s.slot k = some l ∧ l.source = a.source ∧ l.state = .collecting ∧
      inRange a.first l.first l.last = true := by
  unfold State.covered
  simp only [List.any_eq_true, mem_allSlots, true_and, Live.collects]
  constructor
  · rintro ⟨k, hk⟩
    cases h : s.slot k with
    | none => simp [h] at hk
    | some l => simp [h] at hk; exact ⟨k, l, h, hk.1, hk.2.1, hk.2.2⟩
  · rintro ⟨k, l, h, h1, h2, h3⟩
    exact ⟨k, by simp [h, h1, h2, h3]⟩

/-- A response that offers no FAULT trigger leaves the table alone (R99). -/
theorem State.fireFault_of_noFault {s t : State} {ts : List RespTransfer} (h : noFault s ts)
    (h1 : t.recState = s.recState) (h2 : t.regs = s.regs) : t.fireFault ts = t := by
  unfold State.fireFault; rw [if_neg]; rintro ⟨a, b, c⟩
  rcases h with h | h | h
  · exact h (h1 ▸ a)
  · rw [h] at b; exact absurd b (by decide)
  · rw [h2] at c; rw [h] at c; exact absurd c (by decide)

end Sys2Proof.Machine
end

