-- ==== Sys2Proof/Laws/Items.lean ====
section
/-! SUPPORT. The coded bytes of the trace items as sums of their fields (11.4), the bytes of an item before its check byte, and
the bits of the control link's bytes (R151). -/

namespace Sys2Proof.Machine

/-- Before its check byte an item is its body (R130). -/
theorem Item.bytes_dropLast (i : Item) : i.bytes.dropLast = i.body := by
  unfold Item.bytes withCheckByte
  rw [List.dropLast_concat]

/-- The source and flags byte of an EVENT_HEADER (11.4). -/
theorem headerFlags_eq (h : EventHeader) :
    headerFlags h = BitVec.ofNat 8 (h.source.code.toNat + (if h.provisional then 8 else 0) + (if h.confirmed then 16 else 0)
      + (if h.limitReason then 32 else 0) + (if h.storeFullReason then 64 else 0)) := by
  have all : ∀ (s : Source) (p c l f : Bool),
      (0 : BitVec 1) ++ BitVec.ofBool f ++ BitVec.ofBool l ++ BitVec.ofBool c ++ BitVec.ofBool p ++ s.code
        = BitVec.ofNat 8 (s.code.toNat + (if p then 8 else 0) + (if c then 16 else 0) + (if l then 32 else 0)
          + (if f then 64 else 0)) := by
    intro s; cases s <;> decide
  exact all _ _ _ _ _

/-- The record flags byte (11.4). -/
theorem recordFlags_eq (r : Record) (form : AddrForm) :
    recordFlags r form = BitVec.ofNat 8 ((kindBit r.kind).toNat + (if r.partialWrite then 2 else 0)
      + (if r.mismatch then 4 else 0) + 8 * r.status.code.toNat + (if form.isFull then 32 else 0)
      + (if r.data.digest.isSome then 64 else 0) + (if r.data.firstBeat.isSome then 128 else 0)) := by
  have all : ∀ (k : Kind) (st : RecordStatus) (p m a d b : Bool),
      BitVec.ofBool b ++ BitVec.ofBool d ++ BitVec.ofBool a ++ st.code ++ BitVec.ofBool m ++ BitVec.ofBool p ++ kindBit k
        = BitVec.ofNat 8 ((kindBit k).toNat + (if p then 2 else 0) + (if m then 4 else 0) + 8 * st.code.toNat
          + (if a then 32 else 0) + (if d then 64 else 0) + (if b then 128 else 0)) := by
    intro k st; cases k <;> cases st <;> decide
  exact all _ _ _ _ _ _ _

/-- The ID and match flags byte of a RECORD (11.4). -/
theorem idByte_eq : ∀ flags id : BitVec 4, flags ++ id = BitVec.ofNat 8 (id.toNat + 16 * flags.toNat) := by decide

/-- The length and tick offset byte of a RECORD (11.4). -/
theorem lengthByte_eq (offset : BitVec 3) (n : Nat) :
    (0 : BitVec 1) ++ offset ++ BitVec.ofNat 4 n = BitVec.ofNat 8 (n % 16 + 16 * offset.toNat) := by
  have all : ∀ (o : BitVec 3) (l : BitVec 4), (0 : BitVec 1) ++ o ++ l = BitVec.ofNat 8 (l.toNat + 16 * o.toNat) := by
    decide
  rw [all, BitVec.toNat_ofNat]

/-- The ID and status byte of an ORPHAN (11.4). -/
theorem orphanByte_eq : ∀ (st : BitVec 1) (id : BitVec 4),
    (0 : BitVec 3) ++ st ++ id = BitVec.ofNat 8 (id.toNat + 16 * st.toNat) := by decide

/-- The device number and state byte of a STATUS frame (11.4). -/
theorem statusByte_eq : ∀ state device : BitVec 2,
    (0 : BitVec 4) ++ state ++ device = BitVec.ofNat 8 (device.toNat + 4 * state.toNat) := by decide

/-- A beat address in four bytes, high byte first (11.4). -/
theorem bytes4_eq (a : Addr) :
    bytes4 a = [a.extractLsb' 24 8, a.extractLsb' 16 8, a.extractLsb' 8 8, a.extractLsb' 0 8] := by
  have cut : ∀ (i j : Nat), j + 8 ≤ 16 → (a.extractLsb' i 16).extractLsb' j 8 = a.extractLsb' (i + j) 8 := by
    intro i j h
    ext n hn
    simp only [BitVec.getElem_extractLsb', BitVec.getLsbD_extractLsb', Nat.add_assoc]
    simp [show j + n < 16 by omega]
  unfold bytes4 bytes2
  rw [cut 16 8 (by omega), cut 16 0 (by omega), cut 0 8 (by omega), cut 0 0 (by omega)]
  rfl

/-- The bits of bytes, with bits short of a byte behind them, complete those bytes again (R151). -/
theorem bytesOfBits_bitsOfBytes (bytes : List Byte) (short : List Bool) (h : short.length < 8) :
    bytesOfBits (bitsOfBytes bytes ++ short) = bytes := by
  have one : ∀ b : Byte, BitVec.ofBool (b.getLsbD 7) ++ BitVec.ofBool (b.getLsbD 6) ++ BitVec.ofBool (b.getLsbD 5)
      ++ BitVec.ofBool (b.getLsbD 4) ++ BitVec.ofBool (b.getLsbD 3) ++ BitVec.ofBool (b.getLsbD 2)
      ++ BitVec.ofBool (b.getLsbD 1) ++ BitVec.ofBool (b.getLsbD 0) = b := by decide
  induction bytes with
  | nil =>
    match short, h with
    | [], _ | [_], _ | [_, _], _ | [_, _, _], _ | [_, _, _, _], _ | [_, _, _, _, _], _ | [_, _, _, _, _, _], _
    | [_, _, _, _, _, _, _], _ => rfl
  | cons b bytes ih =>
    have cons := congrArg₂ List.cons (one b) ih
    exact cons

end Sys2Proof.Machine
end

