-- ==== Sys2Proof/Laws/Offers.lean ====
section
/-! SUPPORT. Record offers one after another: what one offer does by the disposition it comes to, and what a list of offers
leaves in each slot's event (R16, R69, R70). -/

namespace Sys2Proof.Machine

/-! ### Saturating counts -/

/-- One more is one added (data book 1.5). -/
theorem satAdd_one (w : Word) : satAdd w 1 = satInc w := by
  unfold satAdd satInc
  apply BitVec.eq_of_toNat_eq
  have := w.isLt
  split
  · subst w; decide
  · rename_i h
    have h' : w.toNat ≠ 65535 := fun e => h (BitVec.eq_of_toNat_eq e)
    have one : (1 : BitVec 16).toNat = 1 := rfl
    simp only [BitVec.toNat_ofNat, BitVec.toNat_add, one]
    omega

theorem satAdd_zero (w : Word) : satAdd w 0 = w := by
  unfold satAdd
  apply BitVec.eq_of_toNat_eq
  have := w.isLt
  simp only [BitVec.toNat_ofNat]
  omega

/-- Two additions are one of the sum: saturation is not undone (data book 1.5). -/
theorem satAdd_satAdd (w : Word) (m n : Nat) : satAdd (satAdd w m) n = satAdd w (m + n) := by
  unfold satAdd
  apply BitVec.eq_of_toNat_eq
  have := w.isLt
  simp only [BitVec.toNat_ofNat]
  omega

/-! ### One event -/

theorem EventBuild.after_nil (ev : EventBuild) : ev.after [] = ev := by
  unfold EventBuild.after
  simp [satAdd_zero]

/-- Offers in two parts are the parts in turn. -/
theorem EventBuild.after_append (ev : EventBuild) (xs ys : List (Record × Disposition)) :
    ev.after (xs ++ ys) = (ev.after xs).after ys := by
  unfold EventBuild.after
  simp [satAdd_satAdd, List.countP_append, Bool.or_assoc]

theorem EventBuild.after_cons (ev : EventBuild) (p : Record × Disposition) (xs : List (Record × Disposition)) :
    ev.after (p :: xs) = (ev.after [p]).after xs := ev.after_append [p] xs

theorem EventBuild.after_stored (ev : EventBuild) (r : Record) :
    ev.after [(r, .stored)] = { ev with records := ev.records ++ [r] } := by
  simp [EventBuild.after, satAdd_zero]

theorem EventBuild.after_limit (ev : EventBuild) (r : Record) :
    ev.after [(r, .limit)] = { ev with truncated := satInc ev.truncated, limitReason := true } := by
  simp [EventBuild.after, satAdd_one]

theorem EventBuild.after_full (ev : EventBuild) (r : Record) :
    ev.after [(r, .full)] = { ev with truncated := satInc ev.truncated, storeFullReason := true } := by
  simp [EventBuild.after, satAdd_one]

/-! ### One offer -/

/-- What an offer to a slot comes to in a state (R69, R70). -/
def State.disposition (s : State) (k : Slot) : Disposition :=
  if s.regs.maxRecords.toNat ≤ s.heldBy k then .limit else if s.freeSlots = 0 then .full else .stored

/-- An offer to a live slot leaves its event after that one offer, and the other slots as they are (R69, R70). -/
theorem State.slot_offerRecord (s : State) (r : Record) (k : Slot) {l : Live} (hk : s.slot k = some l) (j : Slot) :
    (s.offerRecord r k).slot j =
      if j = k then some { l with event := l.event.after [(r, s.disposition k)] } else s.slot j := by
  have held : s.heldBy k = l.event.records.length := by unfold State.heldBy; rw [hk]
  have step : (s.offerRecord r k).slot j =
      (s.setSlot k (some { l with event := l.event.take r s.regs.maxRecords.toNat s.freeSlots })).slot j := by
    unfold State.offerRecord
    rw [hk]
    dsimp only
    split
    · split <;> rfl
    · rfl
  rw [step, State.slot_setSlot]
  split
  · unfold State.disposition EventBuild.take
    rw [held]
    by_cases h1 : s.regs.maxRecords.toNat ≤ l.event.records.length
    · rw [if_neg (Nat.not_lt.mpr h1), if_pos h1, EventBuild.after_limit]
    · rw [if_pos (Nat.lt_of_not_le h1), if_neg h1]
      by_cases h2 : s.freeSlots = 0
      · rw [if_neg (by omega), if_pos h2, EventBuild.after_full]
      · rw [if_pos (by omega), if_neg h2, EventBuild.after_stored]
  · rfl

/-- A stored record is one more in its event, and the other events hold what they held (R67, R69). -/
theorem State.heldBy_offerRecord (s : State) (r : Record) (k : Slot) {l : Live} (hk : s.slot k = some l) (j : Slot) :
    (s.offerRecord r k).heldBy j =
      if j = k ∧ s.disposition k = .stored then s.heldBy j + 1 else s.heldBy j := by
  unfold State.heldBy
  rw [State.slot_offerRecord s r k hk]
  by_cases hj : j = k
  · subst hj
    rw [if_pos rfl, hk]
    cases h : s.disposition j <;> simp [EventBuild.after]
  · rw [if_neg hj, if_neg (fun h => hj h.1)]

/-- A stored record takes one free slot; a truncated one takes none (R67, R69, R70). -/
theorem State.freeSlots_offerRecord (s : State) (r : Record) (k : Slot) {l : Live} (hk : s.slot k = some l) :
    (s.offerRecord r k).freeSlots = if s.disposition k = .stored then s.freeSlots - 1 else s.freeSlots := by
  have slots : ∀ j, (s.offerRecord r k).slot j =
      (s.setSlot k (some { l with event := l.event.after [(r, s.disposition k)] })).slot j := by
    intro j; rw [State.slot_offerRecord s r k hk, State.slot_setSlot]
  have build := State.buildRecords_congr (State.slots_ext slots)
  have set := State.buildRecords_setSlot s k (some { l with event := l.event.after [(r, s.disposition k)] })
  have queue : (s.offerRecord r k).queue = s.queue := by rw [State.offerRecord_eq]
  rw [hk] at set
  unfold State.freeSlots State.queueRecords
  rw [build, queue]
  have records : (l.event.after [(r, s.disposition k)]).records.length =
      l.event.records.length + if s.disposition k = .stored then 1 else 0 := by
    cases h : s.disposition k <;> simp [EventBuild.after]
  simp only [slotRecords, records] at set
  by_cases h : s.disposition k = .stored
  · rw [if_pos h] at set ⊢
    omega
  · rw [if_neg h] at set ⊢
    omega

/-! ### Offers one after another -/

theorem dispositions_step (limit : Nat) (held : Slot → Nat) (free : Nat) (k : Slot) (rest : List Slot) :
    dispositions limit held free (k :: rest) =
      if limit ≤ held k then .limit :: dispositions limit held free rest
      else if free = 0 then .full :: dispositions limit held free rest
      else .stored :: dispositions limit (fun j => if j = k then held j + 1 else held j) (free - 1) rest := rfl

/-- The first offer comes to what the state gives it, and the rest to what they come to after it. -/
theorem State.dispositions_cons (s : State) (r : Record) (k : Slot) (ks : List Slot) {l : Live}
    (hk : s.slot k = some l) :
    dispositions s.regs.maxRecords.toNat s.heldBy s.freeSlots (k :: ks) =
      s.disposition k :: dispositions (s.offerRecord r k).regs.maxRecords.toNat (s.offerRecord r k).heldBy
        (s.offerRecord r k).freeSlots ks := by
  have regs : (s.offerRecord r k).regs = s.regs := by rw [State.offerRecord_eq]
  have held : (s.offerRecord r k).heldBy =
      fun j => if j = k ∧ s.disposition k = .stored then s.heldBy j + 1 else s.heldBy j :=
    funext (State.heldBy_offerRecord s r k hk)
  rw [regs, held, State.freeSlots_offerRecord s r k hk]
  rw [dispositions_step]
  unfold State.disposition
  by_cases h1 : s.regs.maxRecords.toNat ≤ s.heldBy k
  · simp [h1]
  · by_cases h2 : s.freeSlots = 0 <;> simp [h1, h2]

/-- Offers to live slots in turn leave each live slot's event after the offers made to it, each with what it came to (R16,
R69, R70). -/
theorem State.slot_foldl_offerRecord (offers : List (Record × Slot)) (s : State)
    (live : ∀ p ∈ offers, s.slot p.2 ≠ none) {k : Slot} {l : Live} (hk : s.slot k = some l) :
    (offers.foldl (fun t p => t.offerRecord p.1 p.2) s).slot k = some { l with
      event := l.event.after (((offers.zip (dispositions s.regs.maxRecords.toNat s.heldBy s.freeSlots (offers.map Prod.snd))).filter
        (fun p => p.1.2 == k)).map (fun p => (p.1.1, p.2))) } := by
  induction offers generalizing s l with
  | nil => simp [EventBuild.after_nil, hk]
  | cons p offers ih =>
    obtain ⟨r, j⟩ := p
    obtain ⟨m, hm⟩ := Option.ne_none_iff_exists'.mp (live (r, j) (by simp))
    have still : ∀ q ∈ offers, (s.offerRecord r j).slot q.2 ≠ none := by
      intro q hq
      rw [State.slot_offerRecord s r j hm]
      split
      · simp
      · exact live q (by simp [hq])
    have next := State.slot_offerRecord s r j hm k
    rw [List.foldl_cons, List.map_cons, State.dispositions_cons s r j _ hm, List.zip_cons_cons, List.filter_cons]
    by_cases h : k = j
    · subst h
      rw [hk] at hm; cases hm
      rw [if_pos rfl] at next
      rw [ih _ still next, if_pos (by simp), List.map_cons]
      exact congrArg (fun e => some { l with event := e }) (EventBuild.after_cons _ _ _).symm
    · rw [if_neg h, hk] at next
      rw [ih _ still next, if_neg (by simpa using fun e => h e.symm)]

/-! ### An expiry is its offers in turn -/

/-- Which slots are live does not change with an offer (R69, R70). -/
theorem State.isSome_slot_offerRecord (s : State) (r : Record) (k j : Slot) :
    ((s.offerRecord r k).slot j).isSome = (s.slot j).isSome := by
  cases hk : s.slot k with
  | none => unfold State.offerRecord; rw [hk]
  | some l =>
    rw [State.slot_offerRecord s r k hk]
    split
    · rename_i h; rw [h, hk]; rfl
    · rfl

/-- An offer does not read the window or the OTT. -/
theorem State.offerRecord_with (s : State) (w : List Entry) (o : List OttItem) (r : Record) (k : Slot) :
    ({ s with window := w, ott := o } : State).offerRecord r k = { s.offerRecord r k with window := w, ott := o } := by
  have free : ({ s with window := w, ott := o } : State).freeSlots = s.freeSlots := State.freeSlots_congr rfl rfl
  unfold State.offerRecord
  rw [free]
  show (match s.slot k with
    | none => _
    | some l => _) = _
  cases s.slot k with
  | none => rfl
  | some l =>
    dsimp only
    split
    · split <;> rfl
    · rfl

/-- An offer does not read the OTT. -/
theorem foldl_offers_ott (offers : List (Record × Slot)) (s : State) (o : List OttItem) :
    offers.foldl (fun t p => t.offerRecord p.1 p.2) { s with ott := o } =
      { offers.foldl (fun t p => t.offerRecord p.1 p.2) s with ott := o } := by
  induction offers generalizing s with
  | nil => rfl
  | cons p offers ih =>
    have one : ({ s with ott := o } : State).offerRecord p.1 p.2 = { s.offerRecord p.1 p.2 with ott := o } := by
      have h := State.offerRecord_with s s.window o p.1 p.2
      rw [State.offerRecord_eq s] at h ⊢
      exact h
    rw [List.foldl_cons, List.foldl_cons, one, ih]

theorem foldl_offers_with (offers : List (Record × Slot)) (s : State) (w : List Entry) (o : List OttItem) :
    offers.foldl (fun t p => t.offerRecord p.1 p.2) { s with window := w, ott := o } =
      { offers.foldl (fun t p => t.offerRecord p.1 p.2) s with window := w, ott := o } := by
  induction offers generalizing s with
  | nil => rfl
  | cons p offers ih => rw [List.foldl_cons, List.foldl_cons, State.offerRecord_with, ih]

/-- The offers of one record to slots are its offers to the live ones among them (R16). -/
theorem foldl_offerRecord_live (r : Record) (ks : List Slot) (s : State) :
    ks.foldl (fun t k => t.offerRecord r k) s =
      ((ks.filter (fun k => (s.slot k).isSome)).map (fun k => (r, k))).foldl (fun t p => t.offerRecord p.1 p.2) s := by
  induction ks generalizing s with
  | nil => rfl
  | cons k ks ih =>
    have same : ∀ j, ((s.offerRecord r k).slot j).isSome = (s.slot j).isSome := State.isSome_slot_offerRecord s r k
    rw [List.foldl_cons, ih, List.filter_cons]
    simp only [same]
    split
    · rfl
    · rename_i h
      have none : s.slot k = none := by simpa using h
      have : s.offerRecord r k = s := by unfold State.offerRecord; rw [none]
      rw [this]

/-- Offers leave every slot live or FREE as it was. -/
theorem isSome_slot_foldl_offers (offers : List (Record × Slot)) (s : State) (k : Slot) :
    ((offers.foldl (fun t p => t.offerRecord p.1 p.2) s).slot k).isSome = (s.slot k).isSome := by
  induction offers generalizing s with
  | nil => rfl
  | cons p offers ih => rw [List.foldl_cons, ih, State.isSome_slot_offerRecord]

/-- The offers of one leaving entry to the slots that are live in a state (R16). -/
def State.offersOf (s : State) (e : Entry) : List (Record × Slot) :=
  (allSlots.filter (fun k => e.marks.contains k && (s.slot k).isSome)).map (fun k => (e.copy, k))

/-- One entry leaves by its offers and its detachment (R16, R17). -/
theorem State.expireEntry_offers (s : State) (e : Entry) :
    ∃ o, s.expireEntry e = { (s.offersOf e).foldl (fun t p => t.offerRecord p.1 p.2) s with ott := o } := by
  have offered : (allSlots.filter (fun k => e.marks.contains k)).foldl (fun t k => t.offerRecord e.copy k) s =
      (s.offersOf e).foldl (fun t p => t.offerRecord p.1 p.2) s := by
    rw [foldl_offerRecord_live, List.filter_filter]
    unfold State.offersOf
    congr 2
    exact congrArg (fun f => allSlots.filter f) (funext fun k => Bool.and_comm _ _)
  unfold State.expireEntry
  rw [offered]
  dsimp only
  split
  · exact ⟨_, rfl⟩
  · exact ⟨_, rfl⟩

/-- Entries leave by their offers in turn and their detachments (R16, R17). -/
theorem foldl_expireEntry_offers (es : List Entry) (s : State) :
    ∃ o, es.foldl State.expireEntry s =
      { (es.flatMap s.offersOf).foldl (fun t p => t.offerRecord p.1 p.2) s with ott := o } := by
  induction es generalizing s with
  | nil => exact ⟨s.ott, rfl⟩
  | cons e es ih =>
    obtain ⟨o1, h1⟩ := s.expireEntry_offers e
    obtain ⟨o2, h2⟩ := ih (s.expireEntry e)
    have live : (s.expireEntry e).offersOf = s.offersOf := by
      funext e'
      unfold State.offersOf
      have : ∀ k, ((s.expireEntry e).slot k).isSome = (s.slot k).isSome := by
        intro k; rw [h1]; exact isSome_slot_foldl_offers _ s k
      simp only [this]
    refine ⟨o2, ?_⟩
    rw [List.foldl_cons, h2, live, h1, List.flatMap_cons, List.foldl_append]
    generalize List.foldl _ s (s.offersOf e) = u
    exact congrArg (fun t : State => { t with ott := o2 }) (foldl_offers_ott (es.flatMap s.offersOf) u o1)

/-- An expiry empties the window up to the horizon by its offers in turn and its detachments (R16, R17). -/
theorem State.expire_offers (s : State) (h : Tick) :
    ∃ o, s.expire h = { (s.offersUpTo h).foldl (fun t p => t.offerRecord p.1 p.2) s with
      window := s.window.filter (fun e => !atOrBefore e.reqTick h), ott := o } := by
  obtain ⟨o, ho⟩ := foldl_expireEntry_offers (s.window.filter (fun e => atOrBefore e.reqTick h))
    { s with window := s.window.filter (fun e => !atOrBefore e.reqTick h) }
  refine ⟨o, ho.trans ?_⟩
  exact congrArg (fun t : State => { t with ott := o })
    (foldl_offers_with _ s (s.window.filter (fun e => !atOrBefore e.reqTick h)) s.ott)

/-- Every offer of an expiry is to a live slot. -/
theorem State.offersUpTo_live (s : State) (h : Tick) : ∀ p ∈ s.offersUpTo h, s.slot p.2 ≠ none := by
  intro p hp
  unfold State.offersUpTo at hp
  obtain ⟨e, _, he⟩ := List.mem_flatMap.mp hp
  obtain ⟨k, hk, rfl⟩ := List.mem_map.mp he
  have := (List.mem_filter.mp hk).2
  intro none
  simp [none] at this

/-- An expiry leaves each live slot's event after the offers made to it (R16, R69, R70). -/
theorem State.slot_expire (s : State) (h : Tick) {k : Slot} {l : Live} (hk : s.slot k = some l) :
    (s.expire h).slot k = some (s.expired h k l) := by
  obtain ⟨o, ho⟩ := s.expire_offers h
  rw [ho]
  exact State.slot_foldl_offerRecord (s.offersUpTo h) s (s.offersUpTo_live h) hk

end Sys2Proof.Machine
end

