-- ==== Sys2Proof/Tests/Slice0.lean ====
section
/-! SUPPORT. Tests: the terms that WellFormed refuses, frames written out from 11.3, worked values of the data book, one
step of each command, and for every statement with hypotheses a state and operands that meet them. -/

namespace Sys2Proof.Tests

open Sys2Proof Sys2Proof.Machine

/-! ## What WellFormed refuses -/

def readHeader : ReqHeader := ⟨.read, 3, 0x100, 4⟩
def writeHeader : ReqHeader := ⟨.write, 2, 0x20F0, 2⟩
def fullBeat : WriteBeat := ⟨0x1122334455667788, 0xFF⟩
def partBeat : WriteBeat := ⟨0x0F0F0F0F12345678, 0x0F⟩
def okLast : RespTransfer := ⟨3, .okay, true, 0x1122334455667788, true⟩
def okMore : RespTransfer := ⟨3, .okay, true, 0x0F0F0F0F12345678, false⟩
def errorLast : RespTransfer := ⟨3, .error, false, 0, true⟩

theorem test_refuses_no_request_transfer : WellFormed (.requestTaken []) = false := by decide
theorem test_refuses_length_zero : WellFormed (.requestTaken [.header ⟨.read, 3, 0x100, 0⟩]) = false := by decide
theorem test_refuses_length_seventeen : WellFormed (.requestTaken [.header ⟨.write, 3, 0x100, 17⟩]) = false := by decide
theorem test_refuses_read_with_beat : WellFormed (.requestTaken [.header readHeader, .beat fullBeat]) = false := by decide
theorem test_refuses_beats_above_length :
    WellFormed (.requestTaken [.header writeHeader, .beat fullBeat, .beat fullBeat, .beat fullBeat]) = false := by decide
theorem test_refuses_header_among_beats :
    WellFormed (.requestTaken [.beat fullBeat, .header readHeader]) = false := by decide
theorem test_refuses_second_header :
    WellFormed (.requestTaken [.header writeHeader, .header readHeader]) = false := by decide
theorem test_refuses_seventeen_beats :
    WellFormed (.requestTaken (List.replicate 17 (.beat fullBeat))) = false := by decide
theorem test_refuses_no_response_transfer : WellFormed (.responseTaken []) = false := by decide
theorem test_refuses_seventeen_response_transfers :
    WellFormed (.responseTaken (List.replicate 17 okMore)) = false := by decide
theorem test_refuses_early_last : WellFormed (.responseTaken [okLast, okLast]) = false := by decide
theorem test_refuses_read_of_tick_halves :
    WellFormed (.readReg 43) = false ∧ WellFormed (.readReg 44) = false := by decide
theorem test_refuses_write_of_own_rows :
    ([2, 5, 36, 37, 40, 42] : List Byte).all (fun n => !WellFormed (.writeReg n 1)) = true := by decide
theorem test_refuses_known_as_unknown :
    ([0x00, 0x01, 0x02, 0x10, 0x11, 0x12, 0x13, 0x20, 0x21, 0x22, 0x30] : List Byte).all
      (fun c => !WellFormed (.unknownCommand c)) = true := by decide
theorem test_refuses_abort_of_complete_frame : WellFormed (.frameAbort (bitsOfBytes [0x20, 0xE0])) = false := by decide
theorem test_refuses_bad_check_with_zero_sum : WellFormed (.badCheckByte [0x20, 0xE0]) = false := by decide
theorem test_refuses_bad_check_of_wrong_length :
    WellFormed (.badCheckByte []) = false ∧ WellFormed (.badCheckByte [0x20]) = false ∧
    WellFormed (.badCheckByte [0x20, 0x00, 0x01]) = false := by decide
theorem test_accepts_boundaries :
    WellFormed (.requestTaken [.header writeHeader, .beat fullBeat, .beat partBeat]) = true ∧
    WellFormed (.responseTaken (List.replicate 15 okMore ++ [okLast])) = true ∧
    WellFormed (.writeReg 41 0x013E) = true ∧ WellFormed (.readReg 255) = true ∧
    WellFormed (.unknownCommand 0x03) = true ∧ WellFormed (.frameAbort []) = true ∧
    WellFormed (.frameAbort ((bitsOfBytes [0x20, 0xE0]).take 15)) = true ∧
    WellFormed (.badCheckByte [0x20, 0xE1]) = true := by decide

/-! ## Frames written out from 11.3 -/

theorem test_frame_nop : decodeFrame [0x00, 0x00] = some .nop := by decide
theorem test_frame_read_window_count : decodeFrame [0x01, 0x2D, 0xD2] = some (.readReg 45) := by decide
theorem test_frame_read_tick_halves :
    decodeFrame [0x01, 0x2B, 0xD4] = some .curTickHiRead ∧ decodeFrame [0x01, 0x2C, 0xD3] = some .curTickLoRead := by
  decide
theorem test_frame_write_latency : decodeFrame [0x02, 0x02, 0x00, 0x80, 0x7C] = some (.latencyWrite 128) := by decide
theorem test_frame_write_tick_div : decodeFrame [0x02, 0x03, 0x01, 0x00, 0xFA] = some (.writeReg 3 256) := by decide
theorem test_frame_trigger : decodeFrame [0x10, 0x11, 0x13, 0xCC] = some (.trigger 17 0x13) := by decide
theorem test_frame_confirm_cancel_query :
    decodeFrame [0x11, 0x11, 0xDE] = some (.confirm 17) ∧ decodeFrame [0x12, 0x11, 0xDD] = some (.cancel 17) ∧
    decodeFrame [0x13, 0x11, 0xDC] = some (.queryTag 17) := by decide
theorem test_frame_start_stop :
    decodeFrame [0x20, 0xE0] = some .start ∧ decodeFrame [0x21, 0xDF] = some .stop := by decide
theorem test_frame_flush : decodeFrame [0x22, 0x05, 0xD9] = some (.flush 5) := by decide
theorem test_frame_take_flags : decodeFrame [0x30, 0xD0] = some .takeFlags := by decide
theorem test_frame_bad_check : decodeFrame [0x01, 0x2D, 0xD3] = some (.badCheckByte [0x01, 0x2D, 0xD3]) := by decide
theorem test_frame_unknown : decodeFrame [0x03, 0xFD] = some (.unknownCommand 3) := by decide
theorem test_frame_incomplete : decodeFrame [0x10, 0x11, 0x13] = none := by decide
theorem test_frame_extra_bytes : decodeFrame [0x20, 0xE0, 0x55] = some .start := by decide
theorem test_bits_most_significant_first :
    bitsOfByte 0x13 = [false, false, false, true, false, false, true, true] := by decide
theorem test_bits_of_frames :
    decodeBits (bitsOfBytes [0x20, 0xE0]) = some .start ∧ decodeBits ((bitsOfBytes [0x20, 0xE0]).take 15) = none ∧
    decodeBits (bitsOfBytes [0x20, 0xE0] ++ [true, false, true]) = some .start := by decide
theorem test_table_gives_no_bits (s : State) :
    decodeTableWord 8 0 = none ∧ s.withFetchWord 8 0 = s := ⟨rfl, rfl⟩

/-! ## Worked values of the data book -/

/-- The example after R11: two write beats, the upper four enables of the second off. -/
theorem test_digest_example :
    digestOf ([fullBeat, partBeat].map maskedBeat) = 0x44C4 ∧ isPartial [fullBeat, partBeat] = true := by decide

def unit0 : MatchUnit := ⟨0, 0x2000, 0, 0x20FF, 2, 6⟩

/-- The table of R90. -/
theorem test_unit_example :
    unit0.outcome ⟨.write, 2, 0x20F0, 1⟩ = true ∧ unit0.outcome ⟨.read, 2, 0x20F0, 1⟩ = false ∧
    unit0.outcome ⟨.write, 2, 0x1FFE, 8⟩ = false ∧ unit0.outcome ⟨.write, 2, 0x20FF, 8⟩ = true := by decide

def sampleRecord : Record :=
  { seq := 123, reqTick := 0x000105, kind := .read, id := 3, addr := 0x100, len := 4, partialWrite := false,
    matchFlags := 0, mismatch := false, status := .okay, latency := some 9, data := ⟨some 0x44C4, none⟩ }

def bareRecord : Record := { sampleRecord with status := .opened, latency := none, data := ⟨none, none⟩ }

/-- The lengths of 11.4 for a full and a delta address, with and without latency and data. -/
theorem test_record_lengths :
    (Item.record sampleRecord 4 (.full 0x100)).bytes.length = 14 ∧
    (Item.record sampleRecord 4 (.delta 1)).bytes.length = 12 ∧
    (Item.record bareRecord 4 (.delta 1)).bytes.length = 9 := by decide

theorem test_record_bytes :
    (Item.record bareRecord 4 (.delta 0xFFFF)).bytes = [0xB2, 0x00, 0x03, 0x43, 0x00, 0x7B, 0xFF, 0xFF, 0x8F] := by
  decide

theorem test_burst_open_bytes :
    (Item.burstOpen 2 5 0x012345).bytes = [0xA1, 0x02, 0x05, 0x01, 0x23, 0x45, 0xEF] := by decide

theorem test_device_tag_example : nextDeviceTag 255 = 192 ∧ nextDeviceTag 254 = 255 := by decide

/-! ## States that the tests and witnesses start from -/

def live0 : Live :=
  { tag := 17, source := .command, trigTick := 100, first := 98, last := 101, span := 4, provisional := true,
    confirmed := false, state := .collecting, closeTick := none, event := EventBuild.opened }

def held0 (deadline : Tick) : Live := { live0 with state := .held deadline, closeTick := some 90 }
def parked0 : Live := { live0 with state := .parked, confirmed := true, closeTick := some 90 }
def plain0 : Live := { live0 with provisional := false }

def entry0 : Entry :=
  { place := 0, seq := 0, reqTick := 99, kind := .read, id := 3, addr := 0x100, len := 4, partialWrite := false,
    matchFlags := 0, response := none, data := noData, marks := [0] }

def event0 : Event :=
  { tag := 17, source := .command, provisional := false, confirmed := false, trigTick := 100, first := 98, span := 4,
    records := [], truncated := 0, limitReason := false, storeFullReason := false, missed := 0 }

def event1 : Event := { event0 with records := [sampleRecord] }
def event2 : Event := { event0 with records := [sampleRecord, bareRecord] }

/-- RUN at tick 100, nothing recorded. -/
def running : State := { State.reset with recState := .run, tick := 100, horizon := 35 }

/-- RUN with one OPEN entry, its OTT item, and slot 0 COLLECTING over it. -/
def busy : State :=
  { running with
    window := [entry0], seq := 1, ott := [⟨3, 4, .entry 0 0⟩] }.setSlot 0 (some live0)

/-- The part with the entry of slot 0 given. -/
def withLive (l : Live) : State := running.setSlot 0 (some l)

/-- Every slot live. -/
def fullTable : State := { running with slots := Vector.replicate 16 (some live0) }

/-- The Event Queue full. -/
def queueFull (s : State) : State := { s with queue := List.replicate 32 event0 }

/-- A record store with no slot free: 32 events of 32 records. -/
def storeFull (s : State) : State :=
  { s with queue := List.replicate 32 { event0 with records := List.replicate 32 bareRecord } }

/-- The window full. -/
def windowFull (s : State) : State := { s with window := List.replicate 512 entry0 }

def drop (s : State) : State := { s with regs := { s.regs with capture := 5 } }

def cmd : Arrival := ⟨.command, 20, 100, 36, 4, false⟩
def lineA : Arrival := ⟨.lineA, 255, 100, 36, 4, false⟩
def fault : Arrival := ⟨.fault, 255, 100, 98, 4, false⟩
def matcher : Arrival := ⟨.matcher, 255, 100, 99, 4, false⟩

/-- The state after a command that answers a next state; the start where it does not. -/
def after (c : Instr) (s : State) : State :=
  match exec c s with
  | .next t => t
  | .fault _ => s
  | .refused _ => s

/-- THROTTLE applies, and the count stands one short of the limit. -/
def throttled : State :=
  { running with queue := [event2], throttleCount := 4095, regs := { running.regs with throttleMark := 1023 } }

/-! ## One step of each command -/

theorem test_tick_wraps : (after (.tick .atOnce) { State.reset with tick := 0xFFFFFF }).tick = 0 := by decide
theorem test_tick_timer_saturates :
    (after (.tick .atOnce) { State.reset with statusTimer := 65535 }).statusTimer = 65535 := by decide
theorem test_horizon_expires_marked_entry :
    let t := after .horizonAdvance { busy with tick := 164 }
    t.horizon = 99 ∧ t.window = [] ∧ t.ott = [⟨3, 4, .expired⟩] ∧
    (t.slot 0).map (fun l => l.event.records) = some [entry0.copy] := by decide
theorem test_horizon_ends_collection :
    let t := after .horizonAdvance { busy with tick := 166 }
    t.horizon = 101 ∧ (t.slot 0).map (fun l => l.state) = some (.held 422) := by decide
theorem test_deadline_discards :
    let t := after .decisionDeadline (withLive (held0 100))
    t.slot 0 = none ∧ t.counters.decisionTimeouts = 1 ∧ t.flagSet .timeout = true ∧
    t.notices = [.discard 17 .timeout 0 100] ∧ t.framer = .offering .status := by decide
theorem test_throttle_timeout_at_the_tick :
    let t := after (.tick .atOnce) throttled
    t.suspended = true ∧ t.throttleCount = 0 ∧ t.counters.throttleTimeouts = 1 ∧ t.flagSet .throttle = true ∧
    after .throttleTimeout t = t ∧ (after .flushEvents t).suspended = false := by decide
theorem test_throttle_timeout_of_an_owed_count :
    let t := after .throttleTimeout (after (.tick .afterExpiry) throttled)
    t.suspended = true ∧ t.throttleCount = 0 ∧ t.counters.throttleTimeouts = 1 ∧ t.owed.count = none := by decide
theorem test_start_starts_the_count :
    (after .start { throttled with recState := .off, suspended := true }).throttleCount = 0 ∧
    (after .start { throttled with recState := .off, suspended := true }).suspended = false := by decide
theorem test_status_frame_offered :
    (after .statusFrameDue { running with regs := { running.regs with statusPeriod := 5 }, statusTimer := 5 }).framer =
      .offering .status := by decide
set_option maxRecDepth 8000 in
theorem test_request_read_in_run :
    let t := after (.requestTaken [.header readHeader]) running
    t.seq = 1 ∧ t.ott = [⟨3, 4, .entry 0 0⟩] ∧ t.reqQueue = [⟨readHeader, []⟩] ∧ t.window.length = 1 := by decide
theorem test_request_write_in_two_pieces :
    let t := after (.requestTaken [.beat partBeat]) (after (.requestTaken [.header writeHeader, .beat fullBeat]) running)
    t.uqAssembly = none ∧ t.window.map (fun e => (e.partialWrite, e.data.digest)) = [(true, some 0x44C4)] := by decide
theorem test_request_passed : (after .requestPassed { running with reqQueue := [⟨readHeader, []⟩] }).reqQueue = [] := by
  rfl
theorem test_response_fills :
    let t := after (.responseTaken [okMore, okLast]) busy
    t.ott = [] ∧ t.window.map (fun e => e.response) = [some (.answered .okay 1 true)] ∧ t.respQueue.length = 1 := by
  decide
theorem test_response_orphan :
    let t := after (.responseTaken [errorLast]) running
    t.counters.orphans = 1 ∧ t.notices = [.orphan 3 .error 100] := by decide
theorem test_response_passed : (after .responsePassed { running with respQueue := [[okLast]] }).respQueue = [] := by
  rfl
theorem test_mrst : let t := after .mrstAssert busy
    t.mrst = true ∧ t.ott = [] ∧ t.window.map (fun e => e.response) = [some .abandoned] ∧
    (after .mrstRelease t).mrst = false := by decide
theorem test_rst : after .rstNAssert busy = { State.reset with rst := true } ∧
    (after (.rstNRelease 2 true false true) (after .rstNAssert busy)).devId = 2 := ⟨by rfl, by rfl⟩
theorem test_line_edge :
    let s := { running with regs := { running.regs with lineACfg := 0x24 } }
    ((after (.lineEdge .trgA true) s).slot 0).map (fun l => (l.tag, l.first, l.last)) = some (192, 36, 39) ∧
    (after (.lineEdge .trgA true) { s with lineA := true }).slot 0 = none := by decide
theorem test_nop : after .nop running = { running with
    csLow := true, frame := [0x00, 0x00], answer := some ⟨.ok, []⟩ } := by rfl
theorem test_read_reg :
    (after (.readReg 0) running).answer = some ⟨.ok, [0x15, 0x20]⟩ ∧
    (after (.readReg 63) running).answer = some ⟨.badArg, [0, 0]⟩ := by decide
theorem test_miso :
    let t := after (.readReg 0) running
    (List.range 8).map t.misoByte = [0, 0, 0, 0, 0x15, 0x20, 0, 0] ∧ t.misoDriven = true ∧
    (List.range 8).map (fun j => t.misoBit (32 + j)) = [false, false, false, true, false, true, false, true] ∧
    (after .csNRisesAfterRelease t).misoDriven = false := by decide
theorem test_tick_halves :
    let t := after .curTickHiRead { running with tick := 0x012345 }
    t.answer = some ⟨.ok, [0x00, 0x01]⟩ ∧
    (after .curTickLoRead { t with tick := 0x020000 }).answer = some ⟨.ok, [0x23, 0x45]⟩ := by decide
theorem test_write_reg :
    (after (.writeReg 3 0) State.reset).answer = some ⟨.badArg, []⟩ ∧
    (after (.writeReg 3 7) State.reset).regs.tickDiv = 7 ∧
    (after (.writeReg 3 7) running).answer = some ⟨.busy, []⟩ := by decide
theorem test_latency_write : (after (.latencyWrite 128) State.reset).horizon = 16777087 := by decide
theorem test_max_records_write :
    (after (.maxRecordsWrite 255) State.reset).regs.maxRecords = 255 ∧
    (after (.maxRecordsWrite 256) State.reset).answer = some ⟨.badArg, []⟩ := by decide
theorem test_throttle_mark_write : (after (.throttleMarkWrite 1023) running).regs.throttleMark = 1023 := by decide
theorem test_burst_size_write : (after (.burstSizeWrite 17) running).answer = some ⟨.badArg, []⟩ := by decide
theorem test_status_period_write :
    (after (.statusPeriodWrite 5) { running with statusTimer := 5 }).framer = .offering .status := by decide
theorem test_flag_mask_write : (after (.flagMaskWrite 0x100) { running with flags := 0x100 }).attnLow = true := by decide
theorem test_trigger :
    let t := after (.trigger 17 0x13) running
    t.answer = some ⟨.ok, []⟩ ∧ (t.slot 0).map (fun l => (l.tag, l.span, l.provisional)) = some (17, 3, true) := by
  decide
theorem test_trigger_off : let t := after (.trigger 17 0x13) State.reset
    t.answer = some ⟨.notRunning, []⟩ ∧ t.notices = [.skip .command 17 .notRunning 0] := by decide
theorem test_confirm_held : let t := after (.confirm 17) (withLive (held0 300))
    t.slot 0 = none ∧ t.queue.map (fun e => (e.tag, e.confirmed)) = [(17, true)] ∧ t.framer = .offering .burstOpen := by
  decide
theorem test_cancel : let t := after (.cancel 17) busy
    t.slot 0 = none ∧ t.window.map (fun e => e.marks) = [[]] ∧ t.counters.discardedEvents = 1 := by decide
theorem test_query_tag :
    (after (.queryTag 17) (withLive (held0 300))).answer = some ⟨.ok, [2, 0]⟩ ∧
    (after (.queryTag 18) (withLive (held0 300))).answer = some ⟨.ok, [0, 0]⟩ := by decide
theorem test_start_stop :
    (after .start State.reset).recState = .run ∧ (after .start running).answer = some ⟨.busy, []⟩ ∧
    (after .stop busy).recState = .drain ∧ (after .stop running).recState = .off ∧
    (after .stop running).flagSet .drained = true := by decide
theorem test_flush_window : let t := after .flushWindow busy
    t.window = [] ∧ t.ott = [⟨3, 4, .none⟩] ∧ (t.slot 0).map (fun l => l.event.missed) = some 1 := by decide
theorem test_flush_triggers : let t := after .flushTriggers busy
    t.slot 0 = none ∧ t.window.map (fun e => e.marks) = [[]] := by decide
theorem test_flush_events :
    (after .flushEvents { running with queue := [event1, event0], inTransmission := true }).queue = [event1] ∧
    (after .flushEvents { running with queue := [event1, event0] }).queue = [] := by decide
theorem test_flush_notices :
    (after .flushNotices { running with notices := [.orphan 1 .okay 5] }).notices = [] := by decide
theorem test_flush_counters :
    (after .flushCounters { running with counters := { Counters.zero with merged := 9 } }).counters =
    Counters.zero := by rfl
set_option maxRecDepth 8000 in
theorem test_flush : (after (.flush 0x20) busy).answer = some ⟨.badArg, []⟩ ∧
    (after (.flush 0x03) busy).window = [] ∧ (after (.flush 0x03) busy).slot 0 = none := by decide
theorem test_take_flags : let t := after .takeFlags { running with flags := 0x0102 }
    t.flags = 0 ∧ t.answer = some ⟨.ok, [0x01, 0x02]⟩ := by decide
theorem test_unknown_command : let t := after (.unknownCommand 3) running
    t.answer = some ⟨.unknown, []⟩ ∧ t.counters.linkErrors = 1 ∧ t.flagSet .link = true := by decide
theorem test_frame_abort : (after (.frameAbort [false, true]) running).counters.linkErrors = 1 := by decide
theorem test_bad_check_byte :
    (after (.badCheckByte [0x01, 0x2D, 0xD3]) running).answer = some ⟨.check, [0, 0]⟩ ∧
    (after (.badCheckByte [0x20, 0xE1]) running).answer = some ⟨.check, []⟩ := by decide
theorem test_cs_n_rises : (after .csNRisesAfterRelease { running with csIgnore := true }).csIgnore = false := by decide
theorem test_item_begin_header :
    let t := after .itemBegin { running with queue := [event1], burst := some ⟨0, 0⟩, framer := .offering .eventHeader }
    t.inTransmission = true ∧ t.framer = .sending (.eventHeader event1.header) := by decide
theorem test_item_end_event :
    let t := after .itemEnd { running with
      queue := [event1], inTransmission := true, burst := some ⟨0, 3⟩, restart := false,
      framer := .sending (.record sampleRecord 0 (.full 0x100)) }
    t.queue = [] ∧ t.counters.eventsSent = 1 ∧ t.burst = some ⟨0, 4⟩ ∧ t.framer = .offering .burstClose := by decide
theorem test_step_takes_the_front : step { State.reset with pending := [.start, .nop] } =
    exec .start { State.reset with pending := [.nop] } := by rfl
theorem test_core_steps : Sys2Proof.core.step = step := by rfl

/-! ## Witnesses: what the hypotheses of the statements ask is met

Each theorem takes the statement of its name and shows, clause by clause, a state and operands that meet the clause's
hypotheses, at the boundary values where a clause has a range. -/

def owing (o : Owed) : State := { running with owed := o }

theorem test_witness_StepRunsTheFrontCommand :
    { running with pending := [.nop] }.pending = .nop :: [] ∧
    (running.pending = [] ∧ running.rst = false ∧ running.periodCount + 1 < running.divInForce.toNat) ∧
    ({ running with periodCount := 98 }.periodCount + 1 < { running with periodCount := 98 }.divInForce.toNat) ∧
    (({ running with periodCount := 99 } : State).divInForce.toNat ≤
      ({ running with periodCount := 99 } : State).periodCount + 1) ∧
    (after .rstNAssert running).rst = true := by decide

theorem test_witness_TickAdvances :
    (running.rst = false ∧ running.owed = Owed.nothing ∧ running.throttleHold = false) ∧
    ({ throttled with throttleCount := 4094 }.throttleHold = true ∧
      satInc 4094 < { throttled with throttleCount := 4094 }.regs.throttleLimit) ∧
    (throttled.rst = false ∧ throttled.owed = Owed.nothing ∧ throttled.throttleHold = true ∧
      throttled.regs.throttleLimit ≤ satInc throttled.throttleCount) ∧
    CountOrder.afterExpiry ≠ .atOnce := by decide

def owesCount (s : State) (o : CountOrder) : State := { s with owed := { Owed.nothing with count := some o } }

theorem test_witness_TickFirstTakesWhatIsOwed :
    (owing { Owed.nothing with horizon := true }).rst = false ∧
    (owing { Owed.nothing with horizon := true }).owed.horizon = true ∧
    ((owing { Owed.nothing with deadlines := true }).owed.horizon = false ∧
      (owing { Owed.nothing with deadlines := true }).owed.deadlines = true) ∧
    ((owesCount throttled .afterExpiry).owed.horizon = false ∧ (owesCount throttled .afterExpiry).owed.deadlines = false ∧
      (owesCount throttled .afterExpiry).owed.count ≠ none ∧ (owesCount throttled .afterExpiry).throttleHold = true ∧
      (owesCount throttled .afterExpiry).regs.throttleLimit ≤ satInc (owesCount throttled .afterExpiry).throttleCount) ∧
    ((owing { Owed.nothing with choice := true }).owed.horizon = false ∧
      (owing { Owed.nothing with choice := true }).owed.deadlines = false ∧
      (owing { Owed.nothing with choice := true }).owed.count = none ∧
      (owing { Owed.nothing with choice := true }).owed.choice = true) := by decide

theorem test_witness_ThrottleCountsAndTimesOut :
    running.throttleHold = false ∧
    ({ throttled with throttleCount := 4094 }.throttleHold = true ∧
      satInc 4094 < { throttled with throttleCount := 4094 }.regs.throttleLimit) ∧
    (throttled.throttleHold = true ∧ throttled.regs.throttleLimit ≤ satInc throttled.throttleCount) ∧
    ((owesCount throttled .afterExpiry).rst = false ∧ (owesCount throttled .afterExpiry).owed.count = some .afterExpiry) ∧
    ((owesCount throttled .afterDeadlines).rst = false ∧
      (owesCount throttled .afterDeadlines).owed.count = some .afterDeadlines) ∧
    ((owesCount throttled .afterExpiry).owed.count ≠ none ∧ (owesCount throttled .afterExpiry).throttleHold = true ∧
      (owesCount throttled .afterExpiry).regs.throttleLimit ≤ satInc (owesCount throttled .afterExpiry).throttleCount) ∧
    throttled.owed.count = none := by decide

theorem test_witness_HorizonAdvanceMovesTheWindow :
    { busy with tick := 164 }.rst = false ∧
    (busy.window.filter (fun e : Entry => atOrBefore e.reqTick 99)).length = 1 := by decide

theorem test_witness_OfferIsStoredOrTruncated :
    (busy.slot 0 = some live0 ∧ live0.event.records.length < busy.regs.maxRecords.toNat ∧ 1 ≤ busy.freeSlots) ∧
    ((withLive { live0 with event := { EventBuild.opened with records := List.replicate 64 bareRecord } }).slot 0 =
        some { live0 with event := { EventBuild.opened with records := List.replicate 64 bareRecord } } ∧
      (running.regs.maxRecords.toNat ≤ (List.replicate 64 bareRecord).length)) ∧
    ((storeFull busy).slot 0 = some live0 ∧ live0.event.records.length < (storeFull busy).regs.maxRecords.toNat ∧
      (storeFull busy).freeSlots = 0) := by
  refine ⟨⟨by rfl, by decide, by decide⟩, ⟨by rfl, by decide⟩, by rfl, by decide, ?_⟩
  unfold storeFull State.freeSlots State.buildRecords State.queueRecords
  simp only [List.map_replicate, List.length_replicate, List.sum_replicate]
  decide

theorem test_witness_EveryMarkedEntryIsStoredOrTruncated :
    (busy.rst = false ∧ busy.slot 0 = some live0 ∧ live0.state = .collecting ∧ atOrBefore live0.last 35 = false) ∧
    ((withLive (held0 300)).slot 0 = some (held0 300) ∧ (held0 300).state ≠ .collecting) ∧
    ([(0 : Slot), 1, 0][2]? = some 0) ∧ entry0.response = none ∧
    { entry0 with response := some (.answered .error 255 true) }.response = some (.answered .error 255 true) ∧
    entry0.abandon.response = some .abandoned := by decide

/-- Six offers to two slots, three records allowed to an event, two held by slot 0, and two free record slots. -/
theorem test_dispositions :
    dispositions 3 (fun k => if k = 0 then 2 else 0) 2 [0, 1, 0, 1, 0, 1] = [.stored, .stored, .limit, .full, .limit, .full] ∧
    (EventBuild.opened.after [(sampleRecord, .stored), (bareRecord, .full), (bareRecord, .stored)]) =
      { EventBuild.opened with records := [sampleRecord, bareRecord], truncated := 1, storeFullReason := true } := by decide

/-- Four entries that end their collection at one report: slot 1 HELD, slot 0 takes the last place of the queue, slot 2
parks, slot 3 stays. -/
def ending : State :=
  { ((((running.setSlot 0 (some plain0)).setSlot 1 (some { live0 with tag := 18 })).setSlot 2
      (some { plain0 with tag := 19 })).setSlot 3 (some { plain0 with tag := 20, last := 102 })) with
    tick := 166, window := [{ entry0 with marks := [0, 2] }], queue := List.replicate 31 event0 }

theorem test_report_in_slot_order :
    let t := after .horizonAdvance ending
    ending.completedAt 101 = [0, 2] ∧ t.parking = [2] ∧ t.slot 0 = none ∧
    (t.slot 1).map (fun l => l.state) = some (.held 422) ∧
    (t.slot 2).map (fun l => (l.state, l.event.records.length)) = some (.parked, 1) ∧
    (t.slot 3).map (fun l => l.state) = some .collecting ∧
    t.queue.getLast?.map (fun e => (e.tag, e.records.length)) = some (17, 1) := by decide

theorem test_witness_EndOfCollectionHoldsHandsOverOrParks :
    (busy.slot 0 = some live0 ∧ live0.provisional = true ∧ live0.confirmed = false) ∧
    ((withLive plain0).slot 0 = some plain0 ∧ plain0.provisional = false ∧
      ({ withLive plain0 with queue := List.replicate 31 event0 }).queue.length < 32) ∧
    ((queueFull (withLive { live0 with confirmed := true })).slot 0 = some { live0 with confirmed := true } ∧
      32 ≤ (queueFull (withLive { live0 with confirmed := true })).queue.length) ∧
    (ending.rst = false ∧ (ending.completedAt 101).take (32 - ending.queue.length) = [0] ∧
      (ending.completedAt 101).drop (32 - ending.queue.length) = [2] ∧ ending.slot 4 = none) ∧
    (busy.rst = false ∧ (withLive (held0 300)).slot 0 = some (held0 300) ∧ (held0 300).state ≠ .collecting) ∧
    (live0.state = .collecting ∧ atOrBefore live0.last (horizonOf busy.tick busy.regs.latency) = false) := by decide

theorem test_witness_DeadlinesAndDiscards :
    ((withLive (held0 100)).rst = false ∧ (withLive (held0 100)).owed.count ≠ some .afterDeadlines ∧
      (withLive (held0 100)).deadlinesDue = [0] ∧ (withLive (held0 100)).regs.noticeEn.getLsbD 1 = true) ∧
    { withLive (held0 100) with regs := { running.regs with noticeEn := 5 } }.regs.noticeEn.getLsbD 1 = false ∧
    (withLive (held0 101)).deadlinesDue = [] ∧ busy.slot 0 = some live0 := by decide

/-- Two deadlines at one tick with one place left for their notices. -/
theorem test_two_deadlines :
    let s := { (withLive (held0 100)).setSlot 5 (some { held0 100 with tag := 20 }) with
      notices := List.replicate 7 (Notice.orphan 1 .okay 5) }
    let t := after .decisionDeadline s
    s.deadlinesDue = [0, 5] ∧ t.notices = s.notices ++ [.discard 17 .timeout 0 100] ∧ t.counters.noticesLost = 1 ∧
    t.counters.decisionTimeouts = 2 ∧ t.flagSet .noticeLost = true := by decide

def draining (s : State) : State := { s with recState := .drain }

theorem test_witness_DrainEndsWhenBothAreEmpty :
    ((draining running).recState = .drain ∧ (draining running).window = [] ∧ ∀ k, (draining running).slot k = none) ∧
    running.recState ≠ .drain ∧ (draining busy).window ≠ [] ∧ (draining (withLive live0)).slot 0 ≠ none ∧
    running.freeSlots = 1024 ∧ { running with queue := [event1] }.freeSlots ≠ 1024 ∧
    ((draining (withLive (held0 100))).rst = false ∧ DrainHasWork (draining (withLive (held0 100)))) := by
  refine ⟨by decide, by decide, by decide, by decide, by decide, by decide, by decide, fun _ => .inr ⟨0, ?_⟩⟩
  intro h; cases h

/-- DRAIN ends at the deadline, and at the expiry, that leave the window and the table empty. -/
theorem test_drain_ends_at_a_tick :
    (after .decisionDeadline (draining (withLive (held0 100)))).recState = .off ∧
    (after .decisionDeadline (draining (withLive (held0 100)))).flagSet .drained = true ∧
    (after .horizonAdvance (draining { busy with tick := 164, slots := running.slots })).recState = .off ∧
    (after .horizonAdvance (draining { busy with tick := 166 })).recState = .drain := by decide

/-- Past the first item after release: the restart condition has ended. -/
def settledPort (s : State) : State := { s with restart := false }

def burst3 : State := settledPort { running with queue := [event0], burst := some ⟨0, 3⟩ }
def burst4 : State := settledPort { running with queue := [event0], burst := some ⟨0, 4⟩ }
def due (s : State) : State := { s with regs := { s.regs with statusPeriod := 5 }, statusTimer := 5 }
def almostDue (s : State) : State := { s with regs := { s.regs with statusPeriod := 5 }, statusTimer := 4 }

theorem test_witness_ArbiterChoosesByTheFirstRow :
    ({ running with queue := [event1], inTransmission := true }.rst = false ∧
      { running with queue := [event1], inTransmission := true }.inTransmission = true) ∧
    ({ running with notices := [.orphan 1 .okay 5] }.restart = true ∧
      { running with notices := [.orphan 1 .okay 5] }.notices ≠ []) ∧
    ((due running).restart = true ∧ (due running).regs.statusPeriod ≠ 0 ∧
      (due running).regs.statusPeriod ≤ (due running).statusTimer) ∧
    (running.restart = true ∧ running.notices = [] ∧
      ¬ (running.regs.statusPeriod ≠ 0 ∧ running.regs.statusPeriod ≤ running.statusTimer)) ∧
    ((settledPort { running with notices := [.orphan 1 .okay 5] }).restart = false) ∧
    (burst3.burst = some ⟨0, 3⟩ ∧ burst3.notices = [] ∧ burst3.inTransmission = false ∧ burst3.restart = false ∧
      ¬ (burst3.regs.burstSize.toNat ≤ 3 ∨ burst3.queue = [])) ∧
    (burst4.burst = some ⟨0, 4⟩ ∧ burst4.regs.burstSize.toNat ≤ 4) ∧
    ((settledPort { running with queue := [event0] }).burst = none ∧
      (settledPort { running with queue := [event0] }).queue ≠ []) ∧
    ((settledPort (due running)).queue = [] ∧
      (settledPort (due running)).regs.statusPeriod ≤ (settledPort (due running)).statusTimer) ∧
    ((settledPort (almostDue running)).queue = [] ∧
      ¬ ((settledPort (almostDue running)).regs.statusPeriod ≤ (settledPort (almostDue running)).statusTimer)) := by
  decide

theorem test_witness_ArbiterRechooses :
    { running with framer := .sending (.burstClose 0 1) }.framer = .sending (.burstClose 0 1) ∧
    ((∀ item, running.framer ≠ .sending item) ∧ running.choose = none) ∧
    { running with queue := [event0] }.choose = some .burstOpen := by
  refine ⟨rfl, ⟨?_, by decide⟩, by decide⟩
  intro item h; cases h

theorem test_witness_NoticeJoinsOrIsLost :
    (running.regs.noticeEn.getLsbD 2 = true ∧
      { running with notices := List.replicate 7 (Notice.orphan 1 .okay 5) }.notices.length < 8) ∧
    8 ≤ { running with notices := List.replicate 8 (Notice.orphan 1 .okay 5) }.notices.length ∧
    { running with regs := { running.regs with noticeEn := 3 } }.regs.noticeEn.getLsbD 2 = false := by decide

theorem test_witness_StatusFrameIsOfferedWhenDue :
    (running.rst = false ∧ running.inTransmission = false ∧ running.notices = [] ∧ running.burst = none ∧
      running.queue = [] ∧ ∀ item, running.framer ≠ .sending item) ∧
    ((due running).regs.statusPeriod ≠ 0 ∧ (due running).regs.statusPeriod ≤ (due running).statusTimer) ∧
    running.regs.statusPeriod = 0 ∧ (almostDue running).statusTimer < (almostDue running).regs.statusPeriod ∧
    { running with framer := .sending (.burstClose 0 1) }.framer = .sending (.burstClose 0 1) := by
  refine ⟨⟨rfl, rfl, rfl, rfl, rfl, ?_⟩, by decide, by decide, by decide, rfl⟩
  intro item h; cases h

def offering (c : Choice) : State :=
  { running with
    framer := .offering c, notices := [.orphan 1 .okay 5], burst := some ⟨0, 4⟩, queue := [event1] }

theorem test_witness_ItemBeginsAsOffered :
    ((offering .notice).framer = .offering .notice ∧ (offering .notice).notices = .orphan 1 .okay 5 :: []) ∧
    ((offering .burstClose).framer = .offering .burstClose ∧ (offering .burstClose).burst = some ⟨0, 4⟩) ∧
    ((offering .eventHeader).framer = .offering .eventHeader ∧ (offering .eventHeader).queue = event1 :: []) ∧
    ((offering .record).framer = .offering .record ∧ (offering .record).queue = event1 :: [] ∧
      event1.records = sampleRecord :: []) ∧
    (offering .burstOpen).framer = .offering .burstOpen ∧ (offering .status).framer = .offering .status ∧
    running.framer = .idle := by
  refine ⟨⟨rfl, rfl⟩, ⟨rfl, rfl⟩, ⟨rfl, rfl⟩, ⟨rfl, rfl, rfl⟩, rfl, rfl, rfl⟩

def sending (item : Item) (queue : List Event) : State := { running with framer := .sending item, queue := queue }

/-- A full queue whose head event has no record, its header being sent, and one entry parked behind it. -/
def parkedBehind : State :=
  { (queueFull (withLive parked0)) with parking := [0], inTransmission := true, framer := .sending (.eventHeader event0.header) }

/-- The same with its last record being sent. -/
def parkedBehindRecord : State :=
  { parkedBehind with queue := event1 :: List.replicate 31 event0, framer := .sending (.record sampleRecord 0 (.full 0)) }

theorem test_last_record_serves_the_parking_list :
    let t := after .itemEnd parkedBehindRecord
    t.queue.length = 32 ∧ t.queue.getLast? = some parked0.completed ∧ t.parking = [] ∧ t.slot 0 = none ∧
    t.counters.eventsSent = 1 ∧ t.framer = .offering .burstOpen := by decide

theorem test_witness_ItemEndsWithItsEffect :
    ((sending (.notice (.orphan 1 .okay 5)) []).framer = .sending (.notice (.orphan 1 .okay 5))) ∧
    (sending (.burstClose 0 1) []).framer = .sending (.burstClose 0 1) ∧
    (sending (.burstOpen 0 0 5) []).framer = .sending (.burstOpen 0 0 5) ∧
    (sending (.status running.statusFrame) []).framer = .sending (.status running.statusFrame) ∧
    ((sending (.eventHeader event1.header) [event1]).framer = .sending (.eventHeader event1.header) ∧
      (sending (.eventHeader event1.header) [event1]).queue = event1 :: [] ∧ event1.records ≠ []) ∧
    ((sending (.record sampleRecord 0 (.full 0)) [event2]).queue = event2 :: [] ∧
      event2.records = sampleRecord :: bareRecord :: []) ∧
    ((sending (.eventHeader event0.header) [event0]).queue = event0 :: [] ∧ event0.records = [] ∧
      (sending (.eventHeader event0.header) [event0]).parking = []) ∧
    ((sending (.record sampleRecord 0 (.full 0)) [event1]).queue = event1 :: [] ∧ event1.records = [sampleRecord]) ∧
    running.framer = .idle ∧
    (parkedBehind.framer = .sending (.eventHeader event0.header) ∧
      parkedBehind.queue = event0 :: List.replicate 31 event0 ∧ parkedBehind.queue.length = 32 ∧
      parkedBehind.parking = 0 :: [] ∧ parkedBehind.slot 0 = some parked0) ∧
    (parkedBehindRecord.framer = .sending (.record sampleRecord 0 (.full 0)) ∧
      parkedBehindRecord.queue = event1 :: List.replicate 31 event0 ∧ parkedBehindRecord.queue.length = 32 ∧
      event1.records = [sampleRecord] ∧ parkedBehindRecord.parking = 0 :: [] ∧ parkedBehindRecord.slot 0 = some parked0) := by
  refine ⟨rfl, rfl, rfl, rfl, ⟨rfl, rfl, by decide⟩, ⟨rfl, rfl⟩, ⟨rfl, rfl, rfl⟩, ⟨rfl, rfl⟩, rfl,
    ⟨rfl, rfl, rfl, rfl, rfl⟩, rfl, rfl, rfl, rfl, rfl, rfl⟩

theorem test_witness_ItemBytesSumToZero :
    ((0x8000 : Addr) - 1).toInt = 32767 ∧ ((0 : Addr) - 0x8000).toInt = -32768 ∧ ((0x8000 : Addr) - 0).toInt = 32768 ∧
    ((0 : Addr) - 0x8001).toInt = -32769 := by decide

def readReq : Request := ⟨readHeader, []⟩
def writeReq : Request := ⟨writeHeader, [fullBeat, partBeat]⟩

theorem test_witness_RequestOutsideRunIsForwardedOnly :
    readReq.whole ∧ writeReq.whole ∧ requestOpen State.reset ∧ State.reset.recState ≠ .run ∧
    requestOpen (draining busy) ∧ (draining busy).recState ≠ .run := by
  refine ⟨rfl, by unfold Request.whole writeReq writeHeader; decide, ⟨rfl, by decide⟩, by decide, ⟨rfl, by decide⟩, by decide⟩

theorem test_witness_RequestInRunMakesAnEntry :
    writeReq.whole ∧ requestOpen { running with window := List.replicate 511 entry0 } ∧
    { running with window := List.replicate 511 entry0 }.recState = .run ∧
    { running with window := List.replicate 511 entry0 }.window.length < 512 ∧
    matchFires running.regs writeReq.header = false := by
  refine ⟨by unfold Request.whole writeReq writeHeader; decide, ⟨rfl, ?_⟩, rfl, ?_, by decide⟩
  · unfold State.held State.windowFull; simp only [List.length_replicate]; decide
  · simp only [List.length_replicate]; decide

theorem test_witness_RequestDroppedOnAFullWindow :
    readReq.whole ∧ requestOpen (drop (windowFull busy)) ∧ (drop (windowFull busy)).recState = .run ∧
    512 ≤ (drop (windowFull busy)).window.length ∧ matchFires (drop (windowFull busy)).regs readReq.header = false := by
  refine ⟨rfl, ⟨rfl, ?_⟩, rfl, ?_, by decide⟩
  · unfold State.held State.windowFull drop windowFull; simp only [List.length_replicate]; decide
  · unfold drop windowFull; simp only [List.length_replicate]; decide

def assembling (beats : List WriteBeat) (len : Nat) : State :=
  { running with uqAssembly := some ⟨⟨.write, 2, 0x20F0, len⟩, beats⟩ }

theorem test_witness_WriteInAssemblyRunsToItsTaking :
    (requestOpen running ∧ writeHeader.kind = .write) ∧
    ((assembling [fullBeat] 3).uqAssembly = some ⟨⟨.write, 2, 0x20F0, 3⟩, [fullBeat]⟩ ∧
      (assembling [fullBeat] 3).rst = false ∧ (assembling [fullBeat] 3).mrst = false ∧ [fullBeat].length + 1 < 3) ∧
    ((assembling [fullBeat] 2).uqAssembly = some ⟨⟨.write, 2, 0x20F0, 2⟩, [fullBeat]⟩ ∧
      2 ≤ [fullBeat].length + 1) := by
  refine ⟨⟨⟨rfl, by decide⟩, rfl⟩, ⟨rfl, rfl, rfl, by decide⟩, rfl, by decide⟩

theorem test_witness_HeldTransfersWaitAndHeadsPass :
    (running.uqAssembly = none ∧ 4 ≤ { running with reqQueue := List.replicate 4 readReq }.reqQueue.length) ∧
    32 ≤ { running with ott := List.replicate 32 (OttItem.mk 3 4 .none) }.ott.length ∧
    (after .rstNAssert running).rst = true ∧ (after .mrstAssert running).mrst = true ∧
    ((windowFull running).recState = .run ∧ (windowFull running).regs.capture.getLsbD 2 = false ∧
      512 ≤ (windowFull running).window.length) ∧
    ({ running with queue := [event1, event1], regs := { running.regs with throttleMark := 1023 } }.regs.throttleMark ≠ 0 ∧
      { running with queue := [event1, event1], regs := { running.regs with throttleMark := 1023 } }.freeSlots < 1023 ∧
      { running with queue := [event1, event1], regs := { running.regs with throttleMark := 1023 } }.suspended = false) ∧
    (running.mpAssembly = [] ∧ 4 ≤ { running with respQueue := List.replicate 4 [okLast] }.respQueue.length) ∧
    { running with reqQueue := [readReq] }.reqQueue = readReq :: [] ∧ running.reqQueue = [] ∧
    { running with respQueue := [[okLast]] }.respQueue = [okLast] :: [] ∧ running.respQueue = [] := by
  refine ⟨⟨rfl, by decide⟩, by decide, rfl, rfl, ⟨rfl, by decide, ?_⟩, by decide, ⟨rfl, by decide⟩, rfl, rfl, rfl, rfl⟩
  unfold windowFull; simp only [List.length_replicate]; decide

theorem test_wholeResponse : wholeResponse [okMore, okLast] ∧ wholeResponse [okLast] ∧ wholeResponse [errorLast] ∧
    wholeResponse (List.replicate 16 okMore) := by
  refine ⟨⟨[okMore], okLast, rfl, by decide, by decide, .inl rfl⟩, ⟨[], okLast, rfl, by decide, by decide, .inl rfl⟩,
    ⟨[], errorLast, rfl, by decide, by decide, .inl rfl⟩,
    ⟨List.replicate 15 okMore, okMore, rfl, ?_, by decide, .inr rfl⟩⟩
  intro u hu; rw [List.eq_of_mem_replicate hu]; rfl

def linked (l : Link) : State := { busy with ott := [⟨5, 1, .none⟩, ⟨3, 4, l⟩, ⟨3, 1, .none⟩] }

theorem test_witness_ResponsePairsWithTheOldestOfItsId :
    wholeResponse [okMore, okLast] ∧ responseOpen (linked (.entry 0 0)) ∧ noFault (linked (.entry 0 0)) [okMore, okLast] ∧
    (linked (.entry 0 0)).ott = [⟨5, 1, .none⟩] ++ ⟨3, 4, .entry 0 0⟩ :: [⟨3, 1, .none⟩] ∧
    (∀ i ∈ [OttItem.mk 5 1 .none], i.id ≠ respId [okMore, okLast]) ∧ (3 : TxId) = respId [okMore, okLast] ∧
    responseOpen (linked .expired) ∧ (linked .expired).ott = [⟨5, 1, .none⟩] ++ ⟨3, 4, .expired⟩ :: [⟨3, 1, .none⟩] ∧
    responseOpen (linked .none) ∧ (linked .none).ott = [⟨5, 1, .none⟩] ++ ⟨3, 4, .none⟩ :: [⟨3, 1, .none⟩] := by
  refine ⟨test_wholeResponse.1, ⟨rfl, rfl, rfl, by decide⟩, .inr (.inl rfl), rfl, by decide, rfl,
    ⟨rfl, rfl, rfl, by decide⟩, rfl, ⟨rfl, rfl, rfl, by decide⟩, rfl⟩

theorem test_witness_OrphanIsCountedNoticedAndForwarded :
    wholeResponse [errorLast] ∧ responseOpen { busy with ott := [⟨5, 1, .none⟩] } ∧
    noFault { busy with ott := [⟨5, 1, .none⟩] } [errorLast] ∧
    ∀ i ∈ { busy with ott := [⟨5, 1, .none⟩] }.ott, i.id ≠ respId [errorLast] := by
  refine ⟨test_wholeResponse.2.2.1, ⟨rfl, rfl, rfl, by decide⟩, .inr (.inr rfl), by decide⟩

def matching (s : State) : State :=
  { s with regs := { s.regs with matchCfg := 0x24, matchTable := 0xFFFF, faultCfg := 0x24 } }

theorem test_witness_MatchAndFaultTriggersArrive :
    (readReq.whole ∧ requestOpen (matching running) ∧ (matching running).recState = .run ∧
      matchFires (matching running).regs readReq.header = true ∧ (matching running).window.length < 512) ∧
    (requestOpen (matching (drop (windowFull running))) ∧
      matchFires (matching (drop (windowFull running))).regs readReq.header = true) ∧
    (wholeResponse [errorLast] ∧ responseOpen (matching running) ∧ respStatus [errorLast] = .error ∧
      (matching running).regs.faultCfg.getLsbD 5 = true) := by
  refine ⟨⟨rfl, ⟨rfl, by decide⟩, rfl, by decide, by decide⟩, ⟨⟨rfl, ?_⟩, by decide⟩,
    test_wholeResponse.2.2.1, ⟨rfl, rfl, rfl, by decide⟩, rfl, by decide⟩
  unfold State.held State.windowFull matching drop windowFull; simp only [List.length_replicate]; decide

theorem test_witness_MrstAbandonsThePath : busy.mrst = false ∧ (after .mrstAssert busy).mrst = true := by decide

theorem test_witness_DeviceResetAndItsRelease : (after .rstNAssert busy).rst = true ∧ busy.rst = false := by decide

theorem test_witness_ResetAndTheClosedLinkTakeNothing :
    (after .rstNAssert busy).rst = true ∧ isLinkFrame .nop = true ∧ isLinkFrame (.flush 1) = true ∧
    { running with csIgnore := true }.csIgnore = true ∧ running.rst = false := by decide

def lineOn (s : State) : State := { s with regs := { s.regs with lineACfg := 0x21, lineBCfg := 0x38 } }

theorem test_witness_LineEdgeArrives :
    ((lineOn running).rst = false ∧ (lineOn running).lineA = false ∧ (lineOn running).regs.lineACfg.getLsbD 5 = true) ∧
    ((lineOn running).lineB = false ∧ (lineOn running).regs.lineBCfg.getLsbD 5 = true) ∧
    { lineOn running with lineA := true }.lineA = true ∧ running.regs.lineACfg.getLsbD 5 = false ∧
    { lineOn running with lineB := true }.lineB = true ∧ running.regs.lineBCfg.getLsbD 5 = false := by decide

theorem test_slot_running (k : Slot) : running.slot k = none := by revert k; decide

theorem test_slot_withLive (l : Live) (k : Slot) : (withLive l).slot k = if k = 0 then some l else none := by
  unfold withLive; rw [State.slot_setSlot, test_slot_running]

theorem test_witness_ArrivalTurnedAwayInOrder :
    (lineA.source = .lineA ∧ State.reset.recState = .off) ∧ (draining running).recState = .drain ∧
    (cmd.source = .command ∧ State.reset.recState ≠ .run) ∧
    (running.recState = .run ∧ ∃ k l, (withLive live0).slot k = some l ∧ l.tag = { cmd with tag := 17 }.tag) ∧
    ((¬ ∃ k l, fullTable.slot k = some l ∧ l.tag = cmd.tag) ∧ fullTable.recState = .run ∧ ∀ k, fullTable.slot k ≠ none) ∧
    (fault.source = .fault ∧ ∃ k l, (withLive { live0 with source := .fault }).slot k = some l ∧ l.source = fault.source ∧
      l.state = .collecting ∧ inRange fault.first l.first l.last = true) ∧
    ((¬ ∃ k l, fullTable.slot k = some l ∧ l.source = matcher.source ∧ l.state = .collecting ∧
      inRange matcher.first l.first l.last = true) ∧ ∀ k, fullTable.slot k ≠ none) := by
  have hf : ∀ k, fullTable.slot k = some live0 := by decide
  refine ⟨⟨rfl, rfl⟩, rfl, ⟨rfl, by decide⟩, ⟨rfl, 0, live0, rfl, rfl⟩, ⟨?_, rfl, ?_⟩,
    ⟨rfl, 0, { live0 with source := .fault }, rfl, rfl, rfl, by decide⟩, ?_, ?_⟩
  · rintro ⟨k, l, h, ht⟩; rw [hf k] at h; cases h; revert ht; decide
  · intro k h; rw [hf k] at h; cases h
  · rintro ⟨k, l, h, ht, _⟩; rw [hf k] at h; cases h; revert ht; decide
  · intro k h; rw [hf k] at h; cases h

/-- Slots 0 to 14 live, slot 15 FREE. -/
def lastFree : State := fullTable.setSlot 15 none

theorem test_witness_ArrivalAdmittedIntoTheLowestFreeSlot :
    (running.slot 0 = none ∧ ∀ j, j < (0 : Slot) → running.slot j ≠ none) ∧
    (lastFree.slot 15 = none ∧ ∀ j, j < (15 : Slot) → lastFree.slot j ≠ none) ∧
    (cmd.source = .command ∧ lastFree.recState = .run ∧ ∀ j l, lastFree.slot j = some l → l.tag ≠ cmd.tag) ∧
    (lineA.source = .lineA ∧ lastFree.recState = .run) ∧
    (fault.source = .fault ∧ ∀ j l, lastFree.slot j = some l → l.source = fault.source → l.state = .collecting →
      inRange fault.first l.first l.last = false) := by
  have hf : ∀ j l, lastFree.slot j = some l → l = live0 := by
    intro j l h
    have all : ∀ i, lastFree.slot i = none ∨ lastFree.slot i = some live0 := by decide
    rcases all j with e | e <;> rw [e] at h <;> cases h; rfl
  refine ⟨by decide, by decide, ⟨rfl, rfl, ?_⟩, ⟨rfl, rfl⟩, rfl, ?_⟩
  · intro j l h; rw [hf j l h]; decide
  · intro j l h hs; rw [hf j l h] at hs; exact absurd hs (by decide)

theorem test_witness_DeviceTagIsTheNextFreeOne :
    Config.firstDeviceTag ≤ running.deviceTag ∧ running.deviceTag = 192 ∧
    Config.firstDeviceTag ≤ { running with deviceTag := 255 }.deviceTag := by decide

/-- The example of R31: with 254 and 192 held and the counter at 254 the next device tag is 255, and with the counter back at
192 it is 193. -/
theorem test_device_tag_search :
    let held := (running.setSlot 0 (some { live0 with tag := 254 })).setSlot 1 (some { live0 with tag := 192 })
    { held with deviceTag := 254 }.deviceTagFor = 255 ∧ { held with deviceTag := 192 }.deviceTagFor = 193 := by decide

def goodTrigger (tag : Tag) (control : Byte) : Prop :=
  tag < 192 ∧ 1 ≤ (control.extractLsb' 0 4).toNat ∧ (control.extractLsb' 0 4).toNat ≤ 8 ∧ control.extractLsb' 5 3 = 0

theorem test_witness_TriggerCommandArrives :
    (running.rst = false ∧ running.csIgnore = false) ∧
    goodTrigger 191 0x01 ∧ goodTrigger 0 0x18 ∧ ¬ goodTrigger 192 0x01 ∧ ¬ goodTrigger 17 0x00 ∧ ¬ goodTrigger 17 0x09 ∧
    ¬ goodTrigger 17 0x21 ∧
    State.reset.recState ≠ .run ∧ (∃ k l, (withLive live0).slot k = some l ∧ l.tag = (17 : Tag)) ∧
    ((∀ k l, fullTable.slot k = some l → l.tag ≠ (20 : Tag)) ∧ ∀ k, fullTable.slot k ≠ none) ∧
    ((∀ k l, running.slot k = some l → l.tag ≠ (20 : Tag)) ∧ ∃ k, running.slot k = none) := by
  have hf : ∀ k, fullTable.slot k = some live0 := by decide
  unfold goodTrigger
  refine ⟨by decide, by decide, by decide, by decide, by decide, by decide, by decide, by decide,
    ⟨0, live0, rfl, rfl⟩, ⟨?_, ?_⟩, ?_, 0, rfl⟩
  · intro k l h; rw [hf k] at h; cases h; decide
  · intro k h; rw [hf k] at h; cases h
  · intro k l h; rw [test_slot_running] at h; cases h

theorem test_tagsSound_withLive (l : Live) (h : l.tag < Config.firstDeviceTag ↔ l.source = .command) :
    TagsSound (withLive l) := by
  refine ⟨?_, by change (192 : Tag) ≤ 192; decide, ?_⟩
  · intro j k a b ha hb _
    rw [test_slot_withLive] at ha hb
    split at ha <;> split at hb <;> simp_all
  · intro k a ha
    rw [test_slot_withLive] at ha
    split at ha
    · cases ha; exact h
    · cases ha

theorem test_witness_ConfirmByTheEntryOfTheTag :
    ((withLive live0).rst = false ∧ (withLive live0).csIgnore = false ∧ TagsSound (withLive live0)) ∧
    (∀ k l, (withLive live0).slot k = some l → l.tag ≠ 18) ∧
    (TagsSound (withLive plain0) ∧ (withLive plain0).slot 0 = some plain0 ∧ plain0.provisional = false) ∧
    (TagsSound (withLive parked0) ∧ (withLive parked0).slot 0 = some parked0 ∧ parked0.provisional = true ∧
      parked0.state = .parked) ∧
    ((withLive live0).slot 0 = some live0 ∧ live0.provisional = true ∧ live0.confirmed = false ∧
      live0.state = .collecting) ∧
    (TagsSound { withLive (held0 300) with queue := List.replicate 31 event0 } ∧
      { withLive (held0 300) with queue := List.replicate 31 event0 }.slot 0 = some (held0 300) ∧
      (held0 300).state = .held 300 ∧ { withLive (held0 300) with queue := List.replicate 31 event0 }.queue.length < 32) ∧
    (TagsSound (queueFull (withLive (held0 300))) ∧ (queueFull (withLive (held0 300))).slot 0 = some (held0 300) ∧
      32 ≤ (queueFull (withLive (held0 300))).queue.length) := by
  have h1 := test_tagsSound_withLive live0 (by decide)
  have h2 := test_tagsSound_withLive (held0 300) (by decide)
  refine ⟨⟨rfl, rfl, h1⟩, ?_, ⟨test_tagsSound_withLive plain0 (by decide), rfl, rfl⟩,
    ⟨test_tagsSound_withLive parked0 (by decide), rfl, rfl, rfl⟩, ⟨rfl, rfl, rfl, rfl⟩,
    ⟨h2, rfl, rfl, by decide⟩, h2, rfl, by decide⟩
  intro k l h; rw [test_slot_withLive] at h; split at h <;> cases h; decide

theorem test_witness_CancelAndQueryByTheEntryOfTheTag :
    (TagsSound (withLive live0) ∧ ∀ k l, (withLive live0).slot k = some l → l.tag ≠ 18) ∧
    (TagsSound (withLive parked0) ∧ (withLive parked0).slot 0 = some parked0 ∧ parked0.tag = 17 ∧
      parked0.state = .parked) ∧
    ((withLive live0).slot 0 = some live0 ∧ live0.state ≠ .parked) :=
  ⟨⟨test_tagsSound_withLive live0 (by decide), test_witness_ConfirmByTheEntryOfTheTag.2.1⟩,
    ⟨test_tagsSound_withLive parked0 (by decide), rfl, rfl, rfl⟩, rfl, by decide⟩

theorem test_witness_ReadRegReturnsTheRegister :
    running.rst = false ∧ running.csIgnore = false ∧ (62 : Byte) < 63 ∧ (62 : Byte) ≤ 62 ∧ (42 : Byte) ≠ 43 ∧
    (45 : Byte) ≠ 44 := by decide

theorem test_witness_TickNumberIsReadInTwoHalves :
    { running with capture := some 0x2345 }.capture = some 0x2345 ∧ running.capture = none ∧
    Instr.itemBegin ≠ .curTickHiRead ∧ exec .itemBegin running = .next running ∧
    exec .rstNAssert running = .next running.resetBlocks := ⟨rfl, rfl, by decide, rfl, rfl⟩

/-- R160's rows at the edges of the ranges: the status of each write in OFF, with the store empty. -/
theorem test_witness_WriteRegIsDecidedInOrder :
    ([(2, 7), (2, 1024), (3, 0), (4, 8), (5, 0), (5, 256), (6, 0), (6, 4096), (7, 0), (7, 9), (8, 0x44), (9, 0x8004),
      (10, 0x0304 + 0x0100), (10, 0x0900), (10, 0x44), (16, 0), (22, 8), (28, 4), (34, 0xFFFF), (36, 0), (36, 17),
      (37, 1024), (38, 0), (39, 8), (41, 0x3F00), (41, 0x003F), (42, 512), (0, 1), (1, 1), (43, 0), (62, 0), (63, 0),
      (255, 1)] : List (Byte × Word)).all (fun p => State.reset.writeStatus p.1 p.2 == .badArg) = true ∧
    ([(2, 8), (2, 1023), (3, 1), (3, 0xFFFF), (4, 7), (5, 1), (5, 255), (6, 1), (6, 4095), (7, 1), (7, 0x38), (8, 8),
      (9, 0x21), (10, 0x0304), (10, 0x0738), (11, 0xFFFF), (12, 0), (16, 3), (22, 7), (29, 0), (35, 0xFFFF), (36, 1),
      (36, 16), (37, 0), (37, 1023), (38, 1), (39, 7), (40, 0), (40, 0xFFFF), (41, 0x3E3E), (42, 0x1FF)] :
        List (Byte × Word)).all (fun p => State.reset.writeStatus p.1 p.2 == .ok) = true ∧
    ([(2, 8), (3, 1), (4, 7), (5, 1)] : List (Byte × Word)).all (fun p => running.writeStatus p.1 p.2 == .busy) = true ∧
    { State.reset with queue := [event1] }.writeStatus 5 1 = .busy ∧
    (State.reset.rst = false ∧ State.reset.csIgnore = false) := by decide

theorem test_witness_OwnRowWritesApplyAtOnce :
    (State.reset.rst = false ∧ State.reset.csIgnore = false ∧ State.reset.recState = .off ∧
      State.reset.freeSlots = 1024) ∧
    (8 : Word) ≤ 8 ∧ (1023 : Word) ≤ 1023 ∧ (1 : Word) ≤ 255 ∧ (16 : Word) ≤ 16 ∧ (511 : Word) < 512 := by decide

theorem test_witness_StartAndStop :
    (State.reset.rst = false ∧ State.reset.csIgnore = false ∧ State.reset.recState = .off) ∧
    running.recState ≠ .off ∧ (draining busy).recState ≠ .off ∧
    (busy.recState = .run ∧ busy.window ≠ []) ∧ (withLive live0).slot 0 ≠ none ∧
    (running.recState = .run ∧ running.window = [] ∧ ∀ k, running.slot k = none) ∧
    (draining busy).recState ≠ .run := by decide

theorem test_witness_FlushCarriesOutItsSelections :
    busy.rst = false ∧ busy.csIgnore = false ∧ (0x20 : Byte).extractLsb' 5 3 ≠ 0 ∧ (0x80 : Byte).extractLsb' 5 3 ≠ 0 ∧
    (0x1F : Byte).extractLsb' 5 3 = 0 ∧ (0x00 : Byte).extractLsb' 5 3 = 0 := by decide

/-- The states that FLUSH WINDOW and FLUSH TRIGGERS are stated for, with an entry marked by a COLLECTING slot. -/
theorem test_witness_FlushWindowAndTriggers :
    busy.rst = false ∧ busy.csIgnore = false ∧ busy.slot 0 = some live0 ∧ busy.markedCount 0 = 1 := by decide

theorem test_parkingSound_parkedBehind : ParkingSound parkedBehind := by
  have hslot : ∀ k, parkedBehind.slot k = if k = 0 then some parked0 else none := fun k => test_slot_withLive parked0 k
  refine ⟨by decide, ?_, fun _ => by decide⟩
  intro k
  show k ∈ [(0 : Slot)] ↔ _
  unfold State.isParked
  rw [hslot k]
  by_cases hk : k = 0
  · simp [hk, parked0]
  · simp [hk]

theorem test_witness_FlushEventsServesTheParkingList :
    parkedBehind.rst = false ∧ parkedBehind.csIgnore = false ∧ ParkingSound parkedBehind :=
  ⟨rfl, rfl, test_parkingSound_parkedBehind⟩

theorem test_witness_FlushNoticesAndFlushCounters :
    (offering .notice).rst = false ∧ (offering .notice).csIgnore = false ∧
    (sending (.notice (.orphan 1 .okay 5)) []).framer = .sending (.notice (.orphan 1 .okay 5)) ∧
    ∀ n, (offering .notice).framer ≠ .sending (.notice n) :=
  ⟨rfl, rfl, rfl, fun n h => by cases h⟩

theorem test_witness_TakeFlagsAndLinkErrors :
    { running with flags := 0x01FF }.rst = false ∧ { running with flags := 0x01FF }.csIgnore = false ∧
    FlagsLegal { running with flags := 0x01FF } ∧ Instr.start ≠ .takeFlags ∧ Instr.start ≠ .rstNAssert ∧
    exec .start running = .next { running with
      csLow := true, frame := linkFrame .start, answer := some ⟨.busy, []⟩ } :=
  ⟨rfl, rfl, by unfold FlagsLegal; decide, by decide, by decide, rfl⟩

theorem test_witness_FramesAreReadAsWritten :
    (WellFormed (.writeReg 41 0x013E) = true ∧
      encodeFrame (.writeReg 41 0x013E) = some [0x02, 0x29, 0x01, 0x3E, 0x96]) ∧
    (WellFormed .flushTriggers = true ∧ encodeFrame .flushTriggers = some [0x22, 0x02, 0xDC]) ∧
    (WellFormed (.badCheckByte [0x20, 0xE1]) = true ∧ encodeFrame (.badCheckByte [0x20, 0xE1]) = some [0x20, 0xE1]) ∧
    [true, true, true, true, true, true, true].length < 8 ∧
    (0 < (after (.readReg 0) running).frame.length ∧ (after (.readReg 0) running).answer = some ⟨.ok, [0x15, 0x20]⟩ ∧
      [(0x15 : Byte), 0x20][1]? = some 0x20 ∧ (after (.readReg 0) running).frame.length + 1 + 2 ≤ 6) ∧
    running.answer = none := by
  decide

theorem test_witness_MatchUnitOutcome :
    unit0.sel.getLsbD 2 = false ∧ { unit0 with sel := 6 }.sel.getLsbD 2 = true := by decide

theorem test_witness_CaptureDepth :
    (0 : Word).extractLsb' 0 2 = 0 ∧ (5 : Word).extractLsb' 0 2 = 1 ∧ (2 : Word).extractLsb' 0 2 = 2 ∧
    (7 : Word).extractLsb' 0 2 = 3 := by decide

theorem test_witness_DataPartByDepth : 0 < 8 ∧ 7 < 8 ∧ partBeat.enables.getLsbD 3 = true ∧ partBeat.enables.getLsbD 4 = false := by
  decide

/-! ### The invariants hold together in a state that records -/

theorem test_slot_busy (k : Slot) : busy.slot k = if k = 0 then some live0 else none := by
  revert k; decide

theorem test_busy_settingsLegal : SettingsLegal busy := by
  intro r h
  cases r with
  | unit k f => revert k; cases f <;> decide
  | counter c => exact absurd h (by cases c <;> decide)
  | _ => first | rfl | exact absurd h (by decide)

theorem test_busy_parkingSound : ParkingSound busy := by
  refine ⟨by decide, ?_, fun h => absurd rfl h⟩
  intro k
  show k ∈ ([] : List Slot) ↔ _
  unfold State.isParked
  rw [test_slot_busy k]
  by_cases hk : k = 0
  · simp [hk, live0]
  · simp [hk]

theorem test_busy_linksSound : LinksSound busy := by
  refine ⟨by decide, by decide, by decide, ?_⟩
  intro i hi q p hq
  have : i = ⟨3, 4, .entry 0 0⟩ := by simpa [busy, State.setSlot] using hi
  subst this
  cases hq
  exact ⟨entry0, by decide, rfl, rfl⟩

theorem test_busy_inTime : InTime busy := by
  refine ⟨.inl (by decide), by decide, ?_⟩
  intro k l h _
  rw [test_slot_busy] at h
  split at h <;> cases h
  decide

theorem test_busy_marksSound : MarksSound busy := by
  intro e he k hk
  have : e = entry0 := by simpa [busy, State.setSlot] using he
  subst this
  have : k = 0 := by simpa [entry0] using hk
  subst this
  exact ⟨live0, rfl, by decide⟩

/-- Every invariant of Safety.lean holds in a state that records or sends, and a step from it answers a next state. -/
theorem test_witness_StepKeeps :
    SettingsLegal busy ∧ FlagsLegal busy ∧ QueuesFit busy ∧ StoreFits busy ∧ SuspensionSound busy ∧
    SuspensionSound (after (.tick .atOnce) throttled) ∧ OffIsEmpty busy ∧ DrainHasWork (draining busy) ∧
    FrameSound busy ∧ FrameSound (after .start busy) ∧ FrameSound (after (.rstNRelease 0 false false true) (after .rstNAssert busy)) ∧
    ParkingSound busy ∧ ParkingSound parkedBehind ∧ TagsSound (withLive live0) ∧ OfferStands parkedBehind ∧ LinksSound busy ∧ InTime busy ∧
    MarksSound busy ∧ step { busy with pending := [.nop] } = exec .nop busy := by
  refine ⟨test_busy_settingsLegal, by unfold FlagsLegal; decide, ?_, by unfold StoreFits; decide, ?_, ?_, ?_,
    fun _ => .inl (by decide), by unfold FrameSound; decide, by unfold FrameSound; decide, by unfold FrameSound; decide,
    test_busy_parkingSound, test_parkingSound_parkedBehind, test_tagsSound_withLive live0 (by decide), ?_, test_busy_linksSound,
    test_busy_inTime, test_busy_marksSound, rfl⟩
  · unfold QueuesFit; decide
  · intro h; exact absurd h (by decide)
  · unfold SuspensionSound; decide
  · intro h; exact absurd h (by decide)
  · exact ⟨rfl, rfl, by decide⟩

end Sys2Proof.Tests
end

section
/-! The match units: a unit's outcome is its criteria reversed by invert (R90), and the four outcomes are the digits of the
index into MATCH_TABLE (R94). -/

namespace Sys2Proof.Machine

open Sys2Proof

/-! ### The outcome of one unit (R90) -/

/-- The three criteria of R90 together, before invert. -/
def MatchUnit.criteria (u : MatchUnit) (h : ReqHeader) : Bool :=
  decide (u.low ≤ h.addr) && decide (h.addr ≤ u.high) && u.kindHolds h.kind && u.idset.getLsbD h.id.toNat

theorem MatchUnit.criteria_iff (u : MatchUnit) (h : ReqHeader) :
    u.criteria h = true ↔ u.low.toNat ≤ h.addr.toNat ∧ h.addr.toNat ≤ u.high.toNat ∧
      u.kindHolds h.kind = true ∧ u.idset.getLsbD h.id.toNat = true := by
  simp [MatchUnit.criteria, BitVec.le_def, and_assoc]

/-- Invert, SEL bit 2, reverses the criteria (R90, 11.2). -/
theorem MatchUnit.outcome_eq_criteria_bne_invert (u : MatchUnit) (h : ReqHeader) :
    u.outcome h = (u.criteria h != u.sel.getLsbD 2) := rfl

theorem MatchUnit.outcome_iff_of_invert_off {u : MatchUnit} (h : ReqHeader) (off : u.sel.getLsbD 2 = false) :
    u.outcome h = true ↔ u.criteria h = true := by
  rw [u.outcome_eq_criteria_bne_invert, off, Bool.bne_false]

theorem MatchUnit.outcome_iff_of_invert_on {u : MatchUnit} (h : ReqHeader) (on : u.sel.getLsbD 2 = true) :
    u.outcome h = true ↔ ¬ u.criteria h = true := by
  rw [u.outcome_eq_criteria_bne_invert, on, Bool.bne_true, Bool.not_eq_true', Bool.not_eq_true]

/-! ### The index into MATCH_TABLE (R94) and the firing (R96) -/

/-- Four joined bits, the last one lowest, weigh 1, 2, 4 and 8. -/
theorem toNat_append_four_bits (a b c d : Bool) :
    (BitVec.ofBool d ++ BitVec.ofBool c ++ BitVec.ofBool b ++ BitVec.ofBool a).toNat =
      (if a then 1 else 0) + (if b then 2 else 0) + (if c then 4 else 0) + (if d then 8 else 0) := by
  revert a b c d
  decide

theorem outcomes_toNat (units : Vector MatchUnit 4) (h : ReqHeader) :
    (outcomes units h).toNat = (if (units.get 0).outcome h then 1 else 0) + (if (units.get 1).outcome h then 2 else 0)
      + (if (units.get 2).outcome h then 4 else 0) + (if (units.get 3).outcome h then 8 else 0) :=
  toNat_append_four_bits _ _ _ _

theorem matchFires_iff (g : Settings) (h : ReqHeader) :
    matchFires g h = true ↔
      g.matchCfg.getLsbD 5 = true ∧ g.matchTable.getLsbD (outcomes g.units h).toNat = true :=
  Bool.and_eq_true_iff

/-- Settles O49: R90 unit by unit, with a split over the request's kind; then the index (R94) and the firing (R96). -/
theorem matchUnitOutcome : Obligations.MatchUnitOutcome := by
  unfold Obligations.MatchUnitOutcome
  refine ⟨?_, outcomes_toNat, matchFires_iff⟩
  intro u h holds
  have criteria_holds : u.criteria h = true ↔ holds := by
    refine (u.criteria_iff h).trans ?_
    obtain ⟨kind, id, addr, len⟩ := h
    cases kind with
    | read => exact Iff.rfl
    | write => exact Iff.rfl
  exact ⟨fun off => (MatchUnit.outcome_iff_of_invert_off h off).trans criteria_holds,
    fun on => (MatchUnit.outcome_iff_of_invert_on h on).trans (not_congr criteria_holds)⟩

end Sys2Proof.Machine
end

section
/-! The framer's choice at an item boundary, one lemma for each row of the tables of R135 and R149 and for the event in
transmission (R136), and what re-making it does (R128, R129). -/

namespace Sys2Proof.Machine

open Sys2Proof

/-- A status frame is due when STATUS_PERIOD is non-zero and the status timer has reached it (R141). -/
theorem State.statusDue_iff (s : State) :
    s.statusDue = true ↔ s.regs.statusPeriod ≠ 0 ∧ s.regs.statusPeriod ≤ s.statusTimer := by
  simp [State.statusDue]

/-! ### Which table the choice reads -/

/-- Inside an event the choice is its next record, the restart condition or not (R136). -/
theorem State.choose_of_inTransmission {s : State} (out : s.rst = false) (inside : s.inTransmission = true) :
    s.choose = some .record := by
  simp [State.choose, out, inside]

/-- Row 1 of R135. -/
theorem State.choose_of_restart {s : State} (out : s.rst = false) (between : s.inTransmission = false)
    (restart : s.restart = true) : s.choose = s.restartChoice := by
  simp [State.choose, out, between, restart]

theorem State.choose_of_not_restart {s : State} (out : s.rst = false) (between : s.inTransmission = false)
    (past : s.restart = false) : s.choose = s.boundaryChoice := by
  simp [State.choose, out, between, past]

/-! ### The choice while the restart condition stands (R149) -/

theorem State.restartChoice_of_noticeOrDue {s : State} (waits : s.notices ≠ [] ∨ s.statusDue = true) :
    s.restartChoice = some .status := by
  have status : (!s.notices.isEmpty || s.statusDue) = true := by simpa using waits
  rw [State.restartChoice, if_pos status]

theorem State.restartChoice_of_noNotice_notDue {s : State} (quiet : s.notices = []) (notDue : ¬ s.statusDue = true) :
    s.restartChoice = if s.queue = [] then none else some .burstOpen := by
  cases events : s.queue with
  | nil => simp [State.restartChoice, quiet, notDue, events]
  | cons e rest => simp [State.restartChoice, quiet, notDue, events]

/-! ### Rows 2 to 7 of R135 -/

/-- Row 2. -/
theorem State.boundaryChoice_of_notice {s : State} (waits : s.notices ≠ []) : s.boundaryChoice = some .notice := by
  simp [State.boundaryChoice, waits]

/-- Rows 3 and 4: the open burst closes at BURST_SIZE events or with nothing to send, and goes on otherwise. -/
theorem State.boundaryChoice_of_burst {s : State} {b : Burst} (quiet : s.notices = []) (opened : s.burst = some b) :
    s.boundaryChoice =
      if s.regs.burstSize.toNat ≤ b.events ∨ s.queue = [] then some .burstClose else some .eventHeader := by
  simp [State.boundaryChoice, quiet, opened]

/-- Row 5. -/
theorem State.boundaryChoice_of_event {s : State} (quiet : s.notices = []) (closed : s.burst = none)
    (event : s.queue ≠ []) : s.boundaryChoice = some .burstOpen := by
  simp [State.boundaryChoice, quiet, closed, event]

/-- Rows 6 and 7: with nothing else to send, only a due status frame is. -/
theorem State.boundaryChoice_of_nothingWaiting {s : State} (quiet : s.notices = []) (closed : s.burst = none)
    (empty : s.queue = []) : s.boundaryChoice = if s.statusDue then some .status else none := by
  simp [State.boundaryChoice, quiet, closed, empty]

/-! ### Taking the choice (R128) and re-making it (R129) -/

theorem State.offer_of_choose_some {s : State} {c : Choice} (chosen : s.choose = some c) :
    s.offer = { s with framer := .offering c } := by
  simp [State.offer, chosen]

theorem State.offer_of_choose_none {s : State} (nothing : s.choose = none) :
    s.offer = { s with framer := .idle } := by
  simp [State.offer, nothing]

theorem State.rechoose_of_sending {s : State} {item : Item} (sending : s.framer = .sending item) : s.rechoose = s := by
  simp [State.rechoose, sending]

/-- At a boundary, IDLE or OFFERING, a change of what is available re-makes the choice. -/
theorem State.rechoose_of_not_sending {s : State} (boundary : ∀ item, s.framer ≠ .sending item) :
    s.rechoose = s.offer := by
  cases framer : s.framer with
  | idle => simp [State.rechoose, framer]
  | offering c => simp [State.rechoose, framer]
  | sending item => exact absurd framer (boundary item)

/-- Settles O12: the choice row by row, from the table that the state at the boundary selects (R135, R136, R149); then
re-making the choice, by the framer's state (R128, R129). -/
theorem arbiterChoosesByTheFirstRow : Obligations.ArbiterChoosesByTheFirstRow := by
  unfold Obligations.ArbiterChoosesByTheFirstRow
  constructor
  · intro s out due
    have due_iff : s.statusDue = true ↔ due := s.statusDue_iff
    refine ⟨State.choose_of_inTransmission out, ?restartStatus, ?restartOtherwise, ?notice, ?burst, ?event, ?status,
      ?nothing⟩
    case restartStatus =>
      intro between restart waits
      rw [State.choose_of_restart out between restart,
        State.restartChoice_of_noticeOrDue (waits.imp_right due_iff.2)]
    case restartOtherwise =>
      intro between restart quiet notDue
      rw [State.choose_of_restart out between restart,
        State.restartChoice_of_noNotice_notDue quiet (mt due_iff.1 notDue)]
    case notice =>
      intro between past waits
      rw [State.choose_of_not_restart out between past, State.boundaryChoice_of_notice waits]
    case burst =>
      intro b between past quiet opened
      rw [State.choose_of_not_restart out between past, State.boundaryChoice_of_burst quiet opened]
    case event =>
      intro between past quiet closed event
      rw [State.choose_of_not_restart out between past, State.boundaryChoice_of_event quiet closed event]
    case status =>
      intro between past quiet closed empty isDue
      rw [State.choose_of_not_restart out between past, State.boundaryChoice_of_nothingWaiting quiet closed empty,
        if_pos (due_iff.2 isDue)]
    case nothing =>
      intro between past quiet closed empty notDue
      rw [State.choose_of_not_restart out between past, State.boundaryChoice_of_nothingWaiting quiet closed empty,
        if_neg (mt due_iff.1 notDue)]
  · intro s
    refine ⟨fun _ => State.rechoose_of_sending, fun boundary c chosen => ?_, fun boundary nothing => ?_⟩
    · rw [State.rechoose_of_not_sending boundary, State.offer_of_choose_some chosen]
    · rw [State.rechoose_of_not_sending boundary, State.offer_of_choose_none nothing]

end Sys2Proof.Machine
end

section
/-! The two halves of the tick number (R161): what the two reads do to the capture, and that no other command reaches it. -/

namespace Sys2Proof.Machine

open Sys2Proof

/-! ### The bytes that the two reads return -/

/-- A byte in a register word is returned behind a zero byte. -/
theorem bytes2_setWidth (b : Byte) : bytes2 (b.setWidth 16) = [0, b] := by
  revert b
  decide

/-- The lower 16 bits of a tick number, high byte first. -/
theorem bytes2_extractLsb'_zero (t : Tick) :
    bytes2 (t.extractLsb' 0 16) = [t.extractLsb' 8 8, t.extractLsb' 0 8] := by
  have cut (start : Nat) (fits : start + 8 ≤ 16) : (t.extractLsb' 0 16).extractLsb' start 8 = t.extractLsb' start 8 := by
    ext n hn
    have inside : start + n < 16 := by omega
    simp [inside]
  rw [bytes2, cut 8 (by omega), cut 0 (by omega)]

/-! ### The two reads (R161) -/

theorem State.readTickHi_eq (s : State) : s.readTickHi = { s with
    capture := some (s.tick.extractLsb' 0 16),
    csLow := true, frame := linkFrame .curTickHiRead, answer := some ⟨.ok, [0, s.tick.extractLsb' 16 8]⟩ } := by
  rw [← bytes2_setWidth]
  rfl

theorem State.readTickLo_of_captured {s : State} {v : Word} (captured : s.capture = some v) :
    s.readTickLo = { s with
      capture := none,
      csLow := true, frame := linkFrame .curTickLoRead,
      answer := some ⟨.ok, [v.extractLsb' 8 8, v.extractLsb' 0 8]⟩ } := by
  simp [State.readTickLo, captured, State.reply, bytes2]

theorem State.readTickLo_of_live {s : State} (live : s.capture = none) :
    s.readTickLo = { s with
      csLow := true, frame := linkFrame .curTickLoRead,
      answer := some ⟨.ok, [s.tick.extractLsb' 8 8, s.tick.extractLsb' 0 8]⟩ } := by
  rw [← bytes2_extractLsb'_zero]
  simp [State.readTickLo, live, State.reply, State.regValue]

/-- CUR_TICK_HI is register 43 and no other (11.1). -/
theorem eq_of_regOfNum_eq_curTickHi : ∀ n : Byte, regOfNum n = some .curTickHi → n = 43 := by decide

/-- CUR_TICK_LO is register 44 and no other (11.1). -/
theorem eq_of_regOfNum_eq_curTickLo : ∀ n : Byte, regOfNum n = some .curTickLo → n = 44 := by decide

theorem State.readCommand_capture (s : State) {n : Byte} (hi : n ≠ 43) (lo : n ≠ 44) :
    (s.readCommand n).capture = s.capture := by
  unfold State.readCommand
  split
  next => rfl
  next named => exact absurd (eq_of_regOfNum_eq_curTickHi n named) hi
  next named => exact absurd (eq_of_regOfNum_eq_curTickLo n named) lo
  next => rfl

/-! ### Operations that leave the capture -/

/-- Under a condition the capture is left when each branch leaves it. -/
theorem State.ite_capture {s t u : State} {p : Prop} [Decidable p] (yes : t.capture = s.capture)
    (no : u.capture = s.capture) : (if p then t else u).capture = s.capture :=
  iteInduction (motive := fun v : State => v.capture = s.capture) (fun _ => yes) (fun _ => no)

/-- A link command leaves the capture when its act does, on an open link and on a closed one (R158). -/
theorem State.onLink_capture {s : State} {act : State → State} (kept : (act s).capture = s.capture) :
    (s.onLink act).capture = s.capture :=
  State.ite_capture kept rfl

@[simp] theorem State.countThrottle_capture (s : State) : s.countThrottle.capture = s.capture := by
  rw [State.countThrottle_eq]
@[simp] theorem State.advanceHorizon_capture (s : State) : s.advanceHorizon.capture = s.capture := by
  rw [State.advanceHorizon_eq]
@[simp] theorem State.takeDeadlines_capture (s : State) : s.takeDeadlines.capture = s.capture := by
  rw [State.takeDeadlines_eq]
@[simp] theorem State.arrive_capture (s : State) (a : Arrival) : (s.arrive a).capture = s.capture := by
  rw [State.arrive_eq]
@[simp] theorem State.discardReported_capture (s : State) (k : Slot) (r : DiscardReason) :
    (s.discardReported k r).capture = s.capture := by
  rw [State.discardReported_eq]
@[simp] theorem State.handOn_capture (s : State) (k : Slot) : (s.handOn k).capture = s.capture := by
  rw [State.handOn_eq]
@[simp] theorem State.writeReg_capture (s : State) (n : Byte) (v : Word) : (s.writeReg n v).capture = s.capture := by
  rw [State.writeReg_eq]
@[simp] theorem State.flushWindow_capture (s : State) : s.flushWindow.capture = s.capture := by
  rw [State.flushWindow_eq]
@[simp] theorem State.flushTriggers_capture (s : State) : s.flushTriggers.capture = s.capture := by
  rw [State.flushTriggers_eq]
@[simp] theorem State.flushEvents_capture (s : State) : s.flushEvents.capture = s.capture := by
  rw [State.flushEvents_eq]
@[simp] theorem State.flushNotices_capture (s : State) : s.flushNotices.capture = s.capture := by
  rw [State.flushNotices_eq]
@[simp] theorem State.flushSelected_capture (s : State) (selection : Byte) :
    (s.flushSelected selection).capture = s.capture := by
  rw [State.flushSelected_eq]
@[simp] theorem State.freeRecord_capture (s : State) : s.freeRecord.capture = s.capture := by
  rw [State.freeRecord_eq]
@[simp] theorem State.eventLeaves_capture (s : State) : s.eventLeaves.capture = s.capture := by
  rw [State.eventLeaves_eq]

theorem State.writeCommand_capture (s : State) (n : Byte) (v : Word) : (s.writeCommand n v).capture = s.capture :=
  State.onLink_capture (by simp)

/-- What each of the actions that a tick can owe keeps, taking what is owed keeps (log 2). -/
theorem State.settleTick_induction {kept : State → Prop} {s : State} (start : kept s)
    (horizon : ∀ t, kept t → kept t.advanceHorizon) (deadlines : ∀ t, kept t → kept t.takeDeadlines)
    (count : ∀ t, kept t → kept t.countThrottle)
    (choice : ∀ t, kept t → kept ({ t with owed := { t.owed with choice := false } } : State).rechoose) :
    kept s.settleTick := by
  have step (p : Bool) (op : State → State) (keeps : ∀ t, kept t → kept (op t)) (t : State) (before : kept t) :
      kept (if p then op t else t) :=
    iteInduction (motive := kept) (fun _ => keeps t before) (fun _ => before)
  unfold State.settleTick
  exact step _ _ choice _ (step _ _ count _ (step _ _ deadlines _ (step _ _ horizon _ start)))

@[simp] theorem State.settleTick_capture (s : State) : s.settleTick.capture = s.capture := by
  refine State.settleTick_induction (kept := fun t => t.capture = s.capture) rfl ?_ ?_ ?_ ?_
  all_goals
    intro t before
    simpa using before

@[simp] theorem State.startCount_capture (s : State) (order : CountOrder) :
    (s.startCount order).capture = s.capture := by
  cases order with
  | atOnce => exact s.countThrottle_capture
  | afterExpiry => rfl
  | afterDeadlines => rfl

@[simp] theorem State.sampled_capture (s : State) (line : TrigLine) (level : Bool) :
    (s.sampled line level).capture = s.capture := by
  cases line with
  | trgA => rfl
  | trgB => rfl

@[simp] theorem State.confirmSlot_capture (s : State) (k : Slot) : (s.confirmSlot k).capture = s.capture := by
  unfold State.confirmSlot
  split
  · rfl
  · refine State.ite_capture ?_ rfl
    dsimp only
    split
    case h_1 => rfl
    case h_2 => simp
    case h_3 => rfl

@[simp] theorem State.began_capture (s : State) (item : Item) : (s.began item).capture = s.capture := by
  cases item with
  | _ => rfl

@[simp] theorem State.ended_capture (s : State) (item : Item) : (s.ended item).capture = s.capture := by
  cases item with
  | eventHeader h => exact State.ite_capture s.eventLeaves_capture rfl
  | record r offset form => exact State.ite_capture (by simp) (by simp)
  | _ => rfl

/-! ### The commands -/

/-- No command but the two reads, under either of their names, and RST_N reaches the capture (R161). -/
theorem exec_keeps_capture (s : State) {c : Instr} (hi : c ≠ .curTickHiRead) (lo : c ≠ .curTickLoRead)
    (hiReg : c ≠ .readReg 43) (loReg : c ≠ .readReg 44) (reset : c ≠ .rstNAssert) :
    ∃ t, exec c s = .next t ∧ t.capture = s.capture := by
  cases c with
  -- the tick and the actions it owes
  | tick order => exact ⟨_, rfl, State.ite_capture rfl (by simp [State.advanceTick])⟩
  | horizonAdvance => exact ⟨_, rfl, State.ite_capture rfl s.advanceHorizon_capture⟩
  | decisionDeadline => exact ⟨_, rfl, State.ite_capture rfl s.takeDeadlines_capture⟩
  | throttleTimeout => exact ⟨_, rfl, State.ite_capture s.countThrottle_capture rfl⟩
  | statusFrameDue => exact ⟨_, rfl, State.rechoose_capture _⟩
  -- the memory path
  | requestTaken transfers => exact ⟨_, rfl, by rw [foldl_acceptRequest_eq]⟩
  | responseTaken transfers => exact ⟨_, rfl, by rw [foldl_acceptResponse_eq]⟩
  | requestPassed | responsePassed | mrstRelease => exact ⟨_, rfl, rfl⟩
  | mrstAssert => exact ⟨_, rfl, State.ite_capture rfl rfl⟩
  -- the pins
  | rstNAssert => exact absurd rfl reset
  | rstNRelease devid levelA levelB csLow => exact ⟨_, rfl, State.ite_capture rfl rfl⟩
  | csNRisesAfterRelease => exact ⟨_, rfl, State.ite_capture rfl rfl⟩
  | lineEdge line sample => exact ⟨_, rfl, State.ite_capture rfl (State.ite_capture (by simp) (by simp))⟩
  -- register access
  | curTickHiRead => exact absurd rfl hi
  | curTickLoRead => exact absurd rfl lo
  | readReg n =>
    exact ⟨_, rfl, State.onLink_capture
      (s.readCommand_capture (fun e => hiReg (congrArg _ e)) (fun e => loReg (congrArg _ e)))⟩
  | writeReg | latencyWrite | maxRecordsWrite | throttleMarkWrite | burstSizeWrite | statusPeriodWrite
  | flagMaskWrite => exact ⟨_, rfl, s.writeCommand_capture _ _⟩
  -- trigger and decision commands
  | trigger tag control => exact ⟨_, rfl, State.onLink_capture (State.ite_capture (by simp) rfl)⟩
  | confirm tag =>
    refine ⟨_, rfl, State.onLink_capture ?_⟩
    rw [State.reply_capture]
    split
    · rfl
    · exact s.confirmSlot_capture _
  | cancel tag =>
    refine ⟨_, rfl, State.onLink_capture ?_⟩
    rw [State.reply_capture]
    split
    · rfl
    · exact State.ite_capture (by simp) rfl
  -- run control and flushing
  | start => exact ⟨_, rfl, State.onLink_capture (State.ite_capture rfl rfl)⟩
  | stop => exact ⟨_, rfl, State.onLink_capture (State.ite_capture (by simp) rfl)⟩
  | flush selection => exact ⟨_, rfl, State.onLink_capture (State.ite_capture (by simp) rfl)⟩
  | flushWindow | flushTriggers | flushEvents | flushNotices => exact ⟨_, rfl, State.onLink_capture (by simp)⟩
  | flushCounters => exact ⟨_, rfl, State.onLink_capture (State.drainTest_capture _)⟩
  -- link commands that leave all but the flags, the counters and the frame
  | nop | queryTag | takeFlags | unknownCommand | frameAbort | badCheckByte =>
    exact ⟨_, rfl, State.onLink_capture rfl⟩
  -- the trace port
  | itemBegin =>
    refine ⟨_, rfl, ?_⟩
    split
    · split
      · exact State.began_capture s _
      · rfl
    · rfl
    · rfl
  | itemEnd =>
    refine ⟨_, rfl, ?_⟩
    split
    · simp
    · rfl
    · rfl

/-- Settles O37: the two reads by their equations on an open link, and every other command by its arm of exec (R161). -/
theorem tickNumberIsReadInTwoHalves : Obligations.TickNumberIsReadInTwoHalves := by
  unfold Obligations.TickNumberIsReadInTwoHalves
  intro s
  refine ⟨fun out opened => ?reads, fun c t hi lo hiReg loReg reset done => ?others, fun t done => ?reset⟩
  case reads =>
    have onLink (act : State → State) : s.onLink act = act s := State.onLink_open out opened act
    have hiRead : exec .curTickHiRead s = .next s.readTickHi := congrArg Host.Outcome.next (onLink _)
    have loRead : exec .curTickLoRead s = .next s.readTickLo := congrArg Host.Outcome.next (onLink _)
    rw [hiRead, loRead]
    refine ⟨congrArg _ s.readTickHi_eq, fun v captured => congrArg _ (State.readTickLo_of_captured captured),
      fun live => congrArg _ (State.readTickLo_of_live live), ?_, ?_⟩
    · exact congrArg Host.Outcome.next (onLink _)
    · exact congrArg Host.Outcome.next (onLink _)
  case others =>
    obtain ⟨u, ran, kept⟩ := exec_keeps_capture s hi lo hiReg loReg reset
    obtain rfl : u = t := Host.Outcome.next.inj (ran.symm.trans done)
    exact kept
  case reset =>
    obtain rfl : s.resetBlocks = t := Host.Outcome.next.inj done
    rfl

end Sys2Proof.Machine
end

section
/-! The flag word (R167, R168, R171): which operations of the part set flags, that none of them but TAKE_FLAGS and RST_N clears
one, and ATTN_N. -/

namespace Sys2Proof.Machine

open Sys2Proof

/-! ### Flags kept -/

/-- Every flag that stands set in the first state stands set in the second. -/
def FlagsKept (s t : State) : Prop := s.flags &&& t.flags = s.flags

theorem FlagsKept.of_eq {s t : State} (same : t.flags = s.flags := by rfl) : FlagsKept s t := by
  rw [FlagsKept, same, BitVec.and_self]

theorem FlagsKept.refl (s : State) : FlagsKept s s := .of_eq

theorem FlagsKept.trans {s t u : State} (first : FlagsKept s t) (second : FlagsKept t u) : FlagsKept s u := by
  unfold FlagsKept at *
  rw [← first, BitVec.and_assoc, second]

/-- What follows without touching a flag keeps the flags that what came before kept. -/
theorem FlagsKept.then_eq {s t u : State} (before : FlagsKept s t) (same : u.flags = t.flags := by rfl) :
    FlagsKept s u :=
  before.trans (.of_eq same)

/-- A flag's cause sets it, and a set flag stays set (R167). -/
theorem FlagsKept.raise {s t : State} (before : FlagsKept s t) (f : Flag) : FlagsKept s (t.raise f) := by
  refine before.trans ?_
  rw [FlagsKept, State.raise_flags]
  ext i hi
  simpa using Or.inl

theorem FlagsKept.ite {s t u : State} {p : Prop} [Decidable p] (yes : FlagsKept s t) (no : FlagsKept s u) :
    FlagsKept s (if p then t else u) :=
  iteInduction (fun _ => yes) (fun _ => no)

/-- Acts in turn keep the flags when each of them does. -/
theorem FlagsKept.foldl {α : Type} {act : State → α → State} {s : State}
    (kept : ∀ {t : State} (a : α), FlagsKept s t → FlagsKept s (act t a)) (l : List α) {t : State}
    (before : FlagsKept s t) : FlagsKept s (l.foldl act t) := by
  induction l generalizing t with
  | nil => exact before
  | cons a l ih => exact ih (kept a before)

/-- A link command keeps the flags when its act does, on an open link and on a closed one (R158). -/
theorem FlagsKept.onLink {s : State} {act : State → State} (kept : FlagsKept s (act s)) : FlagsKept s (s.onLink act) :=
  .ite kept (.refl s)

theorem FlagsKept.reply {s t : State} (before : FlagsKept s t) (c : Instr) (status : Status) (data : List Byte) :
    FlagsKept s (t.reply c status data) :=
  before.then_eq (t.reply_flags c status data)

/-! ### Operations that leave the flag word -/

@[simp] theorem State.handOn_flags (s : State) (k : Slot) : (s.handOn k).flags = s.flags := by
  rw [State.handOn_eq]
@[simp] theorem State.placesFreed_flags (s : State) : s.placesFreed.flags = s.flags := by
  rw [State.placesFreed_eq]
@[simp] theorem State.report_flags (s : State) (h : Tick) : (s.report h).flags = s.flags := by
  rw [State.report_eq]
@[simp] theorem State.writeReg_flags (s : State) (n : Byte) (v : Word) : (s.writeReg n v).flags = s.flags := by
  rw [State.writeReg_eq]
@[simp] theorem State.flushWindow_flags (s : State) : s.flushWindow.flags = s.flags := by
  rw [State.flushWindow_eq]
@[simp] theorem State.flushTriggers_flags (s : State) : s.flushTriggers.flags = s.flags := by
  rw [State.flushTriggers_eq]
@[simp] theorem State.flushEvents_flags (s : State) : s.flushEvents.flags = s.flags := by
  rw [State.flushEvents_eq]
@[simp] theorem State.flushNotices_flags (s : State) : s.flushNotices.flags = s.flags := by
  rw [State.flushNotices_eq]
@[simp] theorem State.flushSelected_flags (s : State) (selection : Byte) :
    (s.flushSelected selection).flags = s.flags := by
  rw [State.flushSelected_eq]
@[simp] theorem State.freeRecord_flags (s : State) : s.freeRecord.flags = s.flags := by
  rw [State.freeRecord_eq]
theorem foldl_addMissed_flags (n : Nat) (s : State) (l : List Slot) :
    (l.foldl (fun t k => t.addMissed n k) s).flags = s.flags := by
  rw [foldl_addMissed_eq]

theorem State.readCommand_flags (s : State) (n : Byte) : (s.readCommand n).flags = s.flags := by
  unfold State.readCommand
  split
  · rfl
  · rfl
  · unfold State.readTickLo
    split
    · rfl
    · rfl
  · rfl

@[simp] theorem State.settleLink_flags (s : State) (item : OttItem) (ts : List RespTransfer) :
    (s.settleLink item ts).flags = s.flags := by
  rw [State.settleLink_eq]

theorem State.sampled_flags (s : State) (line : TrigLine) (level : Bool) : (s.sampled line level).flags = s.flags := by
  cases line with
  | trgA => rfl
  | trgB => rfl

theorem State.began_flags (s : State) (item : Item) : (s.began item).flags = s.flags := by
  cases item with
  | _ => rfl

/-! ### The shared operations that set flags -/

section

variable {s t : State}

/-- The end of DRAIN sets DRAINED (R177). -/
theorem FlagsKept.drainTest (before : FlagsKept s t) : FlagsKept s t.drainTest := by
  unfold State.drainTest
  exact .ite (.raise before.then_eq .drained) before

/-- A lost notice sets NOTICE_LOST (R144). -/
theorem FlagsKept.notify (before : FlagsKept s t) (n : Notice) : FlagsKept s (t.notify n) := by
  unfold State.notify
  exact .ite (.ite (before.then_eq (State.rechoose_flags _)) (.raise before.then_eq .noticeLost)) before

theorem FlagsKept.discard (before : FlagsKept s t) (k : Slot) : FlagsKept s (t.discard k) := by
  unfold State.discard
  split
  · exact before
  · refine .drainTest (before.then_eq ?_)
    rw [State.storeChanged_flags, State.setSlot_flags]
    split
    · rfl
    · rfl

/-- A decision timeout sets TIMEOUT (R63). -/
theorem FlagsKept.countDiscard (before : FlagsKept s t) (reason : DiscardReason) :
    FlagsKept s (t.countDiscard reason) := by
  cases reason with
  | cancel => exact before.then_eq
  | timeout => exact .raise before.then_eq .timeout

theorem FlagsKept.discardReported (before : FlagsKept s t) (k : Slot) (reason : DiscardReason) :
    FlagsKept s (t.discardReported k reason) := by
  unfold State.discardReported
  split
  · exact before
  · exact ((before.discard k).countDiscard reason).notify _

/-- A refusal sets SKIP (R35). -/
theorem FlagsKept.refuse (before : FlagsKept s t) (a : Arrival) (r : RefuseReason) : FlagsKept s (t.refuse a r) := by
  unfold State.refuse
  exact .notify (.raise before.then_eq .skip) _

theorem FlagsKept.arrive (before : FlagsKept s t) (a : Arrival) : FlagsKept s (t.arrive a) := by
  unfold State.arrive
  split
  · exact before
  · exact before.refuse a _
  · exact before.then_eq
  · split
    · exact before
    · exact before.then_eq

/-! ### The tick -/

/-- A throttle timeout sets THROTTLE (R119). -/
theorem FlagsKept.countThrottle (before : FlagsKept s t) : FlagsKept s t.countThrottle := by
  unfold State.countThrottle
  exact .ite (.ite (.raise before.then_eq .throttle) before.then_eq) before.then_eq

theorem FlagsKept.countIf (before : FlagsKept s t) (order : CountOrder) : FlagsKept s (t.countIf order) := by
  unfold State.countIf
  exact .ite before.countThrottle before

/-- An offer that finds the pool full sets STORE_FULL (R70). -/
theorem FlagsKept.offerRecord (before : FlagsKept s t) (r : Record) (k : Slot) : FlagsKept s (t.offerRecord r k) := by
  unfold State.offerRecord
  split
  · exact before
  · exact .ite (.ite before.then_eq (.raise before.then_eq .storeFull)) before.then_eq

theorem FlagsKept.expireEntry (before : FlagsKept s t) (e : Entry) : FlagsKept s (t.expireEntry e) := by
  have offered := before.foldl (fun k kept => kept.offerRecord e.copy k) (allSlots.filter (fun k => e.marks.contains k))
  unfold State.expireEntry
  exact .ite (offered.then_eq) offered

theorem FlagsKept.expire (before : FlagsKept s t) (h : Tick) : FlagsKept s (t.expire h) := by
  unfold State.expire
  exact .foldl (fun e kept => kept.expireEntry e) _ before.then_eq

theorem FlagsKept.advanceHorizon (before : FlagsKept s t) : FlagsKept s t.advanceHorizon := by
  unfold State.advanceHorizon
  exact .countIf (.drainTest (.then_eq (.expire before.then_eq _) (State.report_flags _ _))) _

theorem FlagsKept.deadlineSlot (before : FlagsKept s t) (k : Slot) : FlagsKept s (t.deadlineSlot k) := by
  unfold State.deadlineSlot
  split
  · exact before
  · exact .ite (before.discardReported k .timeout) before

theorem FlagsKept.takeDeadlines (before : FlagsKept s t) : FlagsKept s t.takeDeadlines := by
  unfold State.takeDeadlines
  exact .countIf (.foldl (fun k kept => kept.deadlineSlot k) _ before.then_eq) _

theorem FlagsKept.settleTick (before : FlagsKept s t) : FlagsKept s t.settleTick :=
  State.settleTick_induction before (fun _ => FlagsKept.advanceHorizon) (fun _ => FlagsKept.takeDeadlines)
    (fun _ => FlagsKept.countThrottle) (fun _ kept => kept.then_eq (State.rechoose_flags _))

theorem FlagsKept.startCount (before : FlagsKept s t) (order : CountOrder) : FlagsKept s (t.startCount order) := by
  cases order with
  | atOnce => exact before.countThrottle
  | afterExpiry => exact before.then_eq
  | afterDeadlines => exact before.then_eq

/-! ### The memory path -/

/-- A dropped request sets WINDOW_DROP (R13). -/
theorem FlagsKept.dropRequest (before : FlagsKept s t) (r : Request) : FlagsKept s (t.dropRequest r) := by
  unfold State.dropRequest
  exact .then_eq (.raise before.then_eq .windowDrop) (foldl_addMissed_flags 1 _ _)

theorem FlagsKept.fireMatch (before : FlagsKept s t) (r : Request) : FlagsKept s (t.fireMatch r) := by
  unfold State.fireMatch
  exact .ite (before.arrive _) before

theorem FlagsKept.recordRequest (before : FlagsKept s t) (r : Request) : FlagsKept s (t.recordRequest r) := by
  unfold State.recordRequest
  exact .fireMatch (.ite before.then_eq (before.dropRequest r)) r

theorem FlagsKept.takeRequest (before : FlagsKept s t) (r : Request) : FlagsKept s (t.takeRequest r) := by
  have recorded : FlagsKept s (if t.recState = .run then t.recordRequest r else t.openItem r .none) :=
    .ite (before.recordRequest r) before.then_eq
  unfold State.takeRequest
  exact recorded.then_eq

theorem FlagsKept.acceptRequest (before : FlagsKept s t) (transfer : ReqTransfer) :
    FlagsKept s (t.acceptRequest transfer) := by
  unfold State.acceptRequest
  split
  · refine .ite before ?_
    split
    · exact before.takeRequest _
    · exact before.then_eq
  · exact .ite before (.ite (.takeRequest before.then_eq _) before.then_eq)
  · exact before
  · exact before

/-- An orphan response sets ORPHAN (R114). -/
theorem FlagsKept.orphan (before : FlagsKept s t) (ts : List RespTransfer) : FlagsKept s (t.orphan ts) := by
  unfold State.orphan
  exact .notify (.raise before.then_eq .orphan) _

theorem FlagsKept.pair (before : FlagsKept s t) (ts : List RespTransfer) : FlagsKept s (t.pair ts) := by
  unfold State.pair
  split
  · exact before.then_eq (State.settleLink_flags _ _ ts)
  · exact before.orphan ts

theorem FlagsKept.fireFault (before : FlagsKept s t) (ts : List RespTransfer) : FlagsKept s (t.fireFault ts) := by
  unfold State.fireFault
  exact .ite (before.arrive _) before

theorem FlagsKept.takeResponse (before : FlagsKept s t) (ts : List RespTransfer) : FlagsKept s (t.takeResponse ts) := by
  unfold State.takeResponse
  exact ((before.pair ts).fireFault ts).then_eq

theorem FlagsKept.acceptResponse (before : FlagsKept s t) (transfer : RespTransfer) :
    FlagsKept s (t.acceptResponse transfer) := by
  unfold State.acceptResponse
  exact .ite before (.ite (.takeResponse before.then_eq _) before.then_eq)

/-! ### The trace port and the control link -/

theorem FlagsKept.eventLeaves (before : FlagsKept s t) : FlagsKept s t.eventLeaves := by
  unfold State.eventLeaves
  exact .drainTest (before.then_eq (State.placesFreed_flags _))

theorem FlagsKept.ended (before : FlagsKept s t) (item : Item) : FlagsKept s (t.ended item) := by
  cases item with
  | eventHeader h => exact .ite before.eventLeaves before
  | record r offset form =>
    have freed : FlagsKept s t.freeRecord := before.then_eq t.freeRecord_flags
    exact .ite freed.eventLeaves freed
  | _ => exact before.then_eq

/-- A link error sets LINK (R157). -/
theorem FlagsKept.linkError (before : FlagsKept s t) : FlagsKept s t.linkError := by
  unfold State.linkError
  exact .raise before.then_eq .link

theorem FlagsKept.confirmSlot (before : FlagsKept s t) (k : Slot) : FlagsKept s (t.confirmSlot k) := by
  unfold State.confirmSlot
  split
  · exact before
  · refine .ite ?_ before
    dsimp only
    split
    case h_1 => exact before.then_eq
    case h_2 => exact .drainTest (before.then_eq (State.handOn_flags _ k))
    case h_3 => exact before

end

theorem State.writeCommand_flagsKept (s : State) (n : Byte) (v : Word) : FlagsKept s (s.writeCommand n v) := by
  unfold State.writeCommand
  exact .onLink (.reply (.of_eq (s.writeReg_flags n v)) _ _ _)

/-! ### The commands -/

/-- No command but TAKE_FLAGS and RST_N clears a flag (R168). -/
theorem exec_keeps_flags (s : State) {c : Instr} (take : c ≠ .takeFlags) (reset : c ≠ .rstNAssert) :
    ∃ t, exec c s = .next t ∧ FlagsKept s t := by
  have start : FlagsKept s s := .refl s
  cases c with
  -- the tick and the actions it owes
  | tick order => exact ⟨_, rfl, .ite start (.startCount (start.settleTick.then_eq) order)⟩
  | horizonAdvance => exact ⟨_, rfl, .ite start start.advanceHorizon⟩
  | decisionDeadline => exact ⟨_, rfl, .ite start start.takeDeadlines⟩
  | throttleTimeout => exact ⟨_, rfl, .ite start.countThrottle start⟩
  | statusFrameDue => exact ⟨_, rfl, .of_eq (State.rechoose_flags _)⟩
  -- the memory path
  | requestTaken transfers => exact ⟨_, rfl, start.foldl (fun transfer kept => kept.acceptRequest transfer) transfers⟩
  | responseTaken transfers =>
    exact ⟨_, rfl, start.foldl (fun transfer kept => kept.acceptResponse transfer) transfers⟩
  | requestPassed | responsePassed | mrstRelease => exact ⟨_, rfl, .of_eq⟩
  | mrstAssert => exact ⟨_, rfl, .ite start .of_eq⟩
  -- the pins
  | rstNAssert => exact absurd rfl reset
  | rstNRelease devid levelA levelB csLow => exact ⟨_, rfl, .ite .of_eq start⟩
  | csNRisesAfterRelease => exact ⟨_, rfl, .ite start .of_eq⟩
  | lineEdge line sample =>
    have sampled : FlagsKept s (s.sampled line sample) := .of_eq (s.sampled_flags line sample)
    exact ⟨_, rfl, .ite start (.ite (sampled.arrive _) sampled)⟩
  -- register access
  | curTickHiRead => exact ⟨_, rfl, .onLink (.of_eq (s.readCommand_flags Config.curTickHiNum))⟩
  | curTickLoRead => exact ⟨_, rfl, .onLink (.of_eq (s.readCommand_flags Config.curTickLoNum))⟩
  | readReg n => exact ⟨_, rfl, .onLink (.of_eq (s.readCommand_flags n))⟩
  | writeReg | latencyWrite | maxRecordsWrite | throttleMarkWrite | burstSizeWrite | statusPeriodWrite
  | flagMaskWrite => exact ⟨_, rfl, s.writeCommand_flagsKept _ _⟩
  -- trigger and decision commands
  | trigger tag control =>
    exact ⟨_, rfl, .onLink (.ite ((start.arrive _).reply _ _ _) (start.reply _ _ _))⟩
  | confirm tag =>
    refine ⟨_, rfl, .onLink (.reply ?_ _ _ _)⟩
    split
    · exact start
    · exact start.confirmSlot _
  | cancel tag =>
    refine ⟨_, rfl, .onLink (.reply ?_ _ _ _)⟩
    split
    · exact start
    · exact .ite (start.discardReported _ .cancel) start
  -- run control and flushing
  | start => exact ⟨_, rfl, .onLink (.ite .of_eq .of_eq)⟩
  | stop => exact ⟨_, rfl, .onLink (.reply (.ite (.drainTest .of_eq) start) _ _ _)⟩
  | flush selection =>
    exact ⟨_, rfl, .onLink (.ite (.reply (.drainTest (.of_eq (s.flushSelected_flags selection))) _ _ _)
      (start.reply _ _ _))⟩
  | flushWindow => exact ⟨_, rfl, .onLink (.reply (.drainTest (.of_eq s.flushWindow_flags)) _ _ _)⟩
  | flushTriggers => exact ⟨_, rfl, .onLink (.reply (.drainTest (.of_eq s.flushTriggers_flags)) _ _ _)⟩
  | flushEvents => exact ⟨_, rfl, .onLink (.reply (.drainTest (.of_eq s.flushEvents_flags)) _ _ _)⟩
  | flushNotices => exact ⟨_, rfl, .onLink (.reply (.drainTest (.of_eq s.flushNotices_flags)) _ _ _)⟩
  | flushCounters => exact ⟨_, rfl, .onLink (.reply (.drainTest .of_eq) _ _ _)⟩
  -- the control link's own commands
  | takeFlags => exact absurd rfl take
  | nop | queryTag => exact ⟨_, rfl, .onLink (start.reply _ _ _)⟩
  | unknownCommand | badCheckByte => exact ⟨_, rfl, .onLink (start.linkError.reply _ _ _)⟩
  | frameAbort => exact ⟨_, rfl, .onLink (start.linkError.then_eq)⟩
  -- the trace port
  | itemBegin =>
    refine ⟨_, rfl, ?_⟩
    split
    · split
      · exact .of_eq (s.began_flags _)
      · exact start
    · exact start
    · exact start
  | itemEnd =>
    refine ⟨_, rfl, ?_⟩
    split
    · exact .then_eq (.ended .of_eq _) (State.offer_flags _)
    · exact start
    · exact start

/-! ### ATTN_N (R171) -/

/-- Each of the nine low bits of the flag word is a flag's (11.2). -/
theorem exists_flagIndex_eq {i : Nat} (low : i < 9) : ∃ f : Flag, flagIndex f = i := by
  match i with
  | 0 => exact ⟨.skip, rfl⟩
  | 1 => exact ⟨.timeout, rfl⟩
  | 2 => exact ⟨.orphan, rfl⟩
  | 3 => exact ⟨.storeFull, rfl⟩
  | 4 => exact ⟨.throttle, rfl⟩
  | 5 => exact ⟨.noticeLost, rfl⟩
  | 6 => exact ⟨.windowDrop, rfl⟩
  | 7 => exact ⟨.link, rfl⟩
  | 8 => exact ⟨.drained, rfl⟩

/-- A set bit of a legal flag word is one of the nine flags' (R167). -/
theorem FlagsLegal.lt_nine_of_getLsbD {s : State} (legal : FlagsLegal s) {i : Nat} (set : s.flags.getLsbD i = true) :
    i < 9 := by
  by_contra high
  have inside : i < 16 := BitVec.lt_of_getLsbD set
  have unused : (0xFE00 : Word).getLsbD i = true := by
    have : ∀ j : Fin 16, 9 ≤ j.val → (0xFE00 : Word).getLsbD j.val = true := by decide
    exact this ⟨i, inside⟩ (Nat.le_of_not_lt high)
  have both : (s.flags &&& 0xFE00).getLsbD i = true := by rw [BitVec.getLsbD_and, set, unused, Bool.and_self]
  rw [legal] at both
  simp at both

/-- A word is not 0 exactly when one of its bits stands set. -/
theorem ne_zero_iff_exists_getLsbD (w : Word) : w ≠ 0 ↔ ∃ i, w.getLsbD i = true := by
  constructor
  · intro nonzero
    by_contra clear
    refine nonzero (BitVec.eq_of_getLsbD_eq fun i _ => ?_)
    simpa using fun set => clear ⟨i, set⟩
  · rintro ⟨i, set⟩ rfl
    simp at set

/-- ATTN_N is low exactly while a set flag is enabled (R171). -/
theorem State.attnLow_iff {s : State} (out : s.rst = false) (legal : FlagsLegal s) :
    s.attnLow = true ↔ ∃ f : Flag, s.flagSet f = true ∧ s.regs.flagMask.getLsbD (flagIndex f) = true := by
  have enabled : s.attnLow = true ↔ ∃ i, s.flags.getLsbD i = true ∧ s.regs.flagMask.getLsbD i = true := by
    simp only [State.attnLow, out, Bool.not_false, Bool.true_and, bne_iff_ne, ne_zero_iff_exists_getLsbD,
      BitVec.getLsbD_and, Bool.and_eq_true]
  rw [enabled]
  constructor
  · rintro ⟨i, set, mask⟩
    obtain ⟨f, rfl⟩ := exists_flagIndex_eq (legal.lt_nine_of_getLsbD set)
    exact ⟨f, set, mask⟩
  · rintro ⟨f, set, mask⟩
    exact ⟨flagIndex f, set, mask⟩

/-- With every flag cleared ATTN_N is high (R168, R171). -/
theorem State.attnLow_of_flags_zero (s : State) : ({ s with flags := 0 } : State).attnLow = false := by
  simp [State.attnLow]

/-- Settles O46: TAKE_FLAGS, its failed frame and its aborted one by their arms on an open link (R153, R155, R168), ATTN_N bit by
bit (R171), and every other command by what it keeps of the flag word. -/
theorem takeFlagsReturnsAndClears : Obligations.TakeFlagsReturnsAndClears := by
  unfold Obligations.TakeFlagsReturnsAndClears
  refine ⟨fun s out opened => ?_, fun s t c take reset done => ?_⟩
  · have onLink (act : State → State) : s.onLink act = act s := State.onLink_open out opened act
    refine ⟨congrArg Host.Outcome.next (onLink _), s.attnLow_of_flags_zero, State.attnLow_iff out,
      fun check => ⟨_, congrArg Host.Outcome.next (onLink _), rfl, rfl⟩,
      fun bits => ⟨_, congrArg Host.Outcome.next (onLink _), rfl, rfl⟩⟩
  · obtain ⟨u, ran, kept⟩ := exec_keeps_flags s take reset
    obtain rfl : u = t := Host.Outcome.next.inj (ran.symm.trans done)
    exact kept

end Sys2Proof.Machine
end

section
/-! What a step can do, said once: every command is a chain of the acts below, each of which the invariants of Safety.lean are
about. A predicate that every act keeps is kept by every step (`step_keeps`). -/

-- One theorem after another: side by side they ask for more threads than the check's memory limit allows.
set_option Elab.async false

namespace Sys2Proof.Machine

open Sys2Proof

/-! ### The acts -/

/-- The horizon at R3's value, the expiry and the report: the window's action at a tick before Run Control's test. -/
def State.moveHorizon (s : State) : State :=
  let h := horizonOf s.tick s.regs.latency
  (({ s with horizon := h, owed := { s.owed with horizon := false } } : State).expire h).report h

/-- The window's action at a tick is the move, the test for the end of DRAIN, and a count left to it (R16, R18, R176). -/
theorem State.advanceHorizon_eq_moveHorizon (s : State) :
    s.advanceHorizon = s.moveHorizon.drainTest.countIf .afterExpiry := rfl

/-- What the arrivals of the part have in common: a COMMAND tag is below 192 (R30), and with the settings in range a span is
1 to 8 ticks long and begins one LATENCY back, or as many ticks back as leave its last tick no earlier than now (R28, R29). -/
structure Arrival.Legal (a : Arrival) (s : State) : Prop where
  tag : a.source = .command → a.tag < Config.firstDeviceTag
  span : SettingsLegal s → 1 ≤ a.span ∧ a.span ≤ 8
  first : SettingsLegal s → a.first = s.pastFirst ∨ ∃ pre, pre + 1 ≤ a.span ∧ a.first = s.tick - BitVec.ofNat 24 pre

/-- The acts that commands are made of, apart from those of the memory path. -/
inductive Act : State → State → Prop where
  /-- Fields that no invariant reads. -/
  | aside (s : State) (mrst : Bool) (devId : BitVec 2) (lineA lineB : Bool) (periodCount : Nat) (divInForce : Word)
      (owed : Owed) (seq : Word) (restart : Bool) (burstNumber : Byte) (prevAddr : Option Addr) (statusTimer : Word)
      (answer : Option Answer) (capture : Option Word) (counters : Counters) (pending : List Instr)
      (same : owed.horizon = s.owed.horizon) :
      Act s { s with
        mrst := mrst, devId := devId, lineA := lineA, lineB := lineB, periodCount := periodCount,
        divInForce := divInForce, owed := owed, seq := seq, restart := restart, burstNumber := burstNumber,
        prevAddr := prevAddr, statusTimer := statusTimer, answer := answer, capture := capture, counters := counters,
        pending := pending }
  | raise (s : State) (f : Flag) : Act s (s.raise f)
  | takeFlags (s : State) : Act s { s with flags := 0 }
  | reply (s : State) (c : Instr) (status : Status) (data : List Byte) (out : s.rst = false)
      (opened : s.csIgnore = false) : Act s (s.reply c status data)
  /-- CS_N rises: no frame stands, and the link opens frames again (R151, R158). -/
  | csRises (s : State) : Act s { s with csIgnore := false, csLow := false, frame := [] }
  /-- CS_N rises over an incomplete frame on the open link (R155). -/
  | abort (s : State) (opened : s.csIgnore = false) : Act s { s with csLow := false, frame := [] }
  | reset (s : State) : Act s s.resetBlocks
  | release (s : State) (devId : BitVec 2) (lineA lineB csLow : Bool) (asserted : s.rst = true) :
      Act s { s with rst := false, devId := devId, lineA := lineA, lineB := lineB, csIgnore := csLow, csLow := csLow }
  | rechoose (s : State) : Act s s.rechoose
  | notice (s : State) (n : Notice) (room : s.notices.length < Config.noticePlaces) :
      Act s ({ s with notices := s.notices ++ [n] } : State).rechoose
  | countThrottle (s : State) : Act s s.countThrottle
  | tick (s : State) (taken : s.owed.horizon = false) : Act s s.advanceTick
  | moveHorizon (s : State) : Act s s.moveHorizon.drainTest
  | discard (s : State) (k : Slot) (l : Live) (live : s.slot k = some l) (unparked : l.state ≠ .parked) :
      Act s (s.discard k)
  | confirm (s : State) (k : Slot) (l : Live) (live : s.slot k = some l) :
      Act s (s.setSlot k (some { l with confirmed := true }))
  | handOn (s : State) (k : Slot) (l : Live) (deadline : Tick) (live : s.slot k = some l)
      (held : l.state = .held deadline) : Act s (s.handOn k).drainTest
  | admission (s : State) (a : Arrival) (k : Slot) (legal : a.Legal s) (free : s.slot k = none)
      (unheld : a.source = .command → s.tagHeld a.tag = false) (on : s.recState ≠ .off) : Act s (s.admitInto a k)
  | start (s : State) (off : s.recState = .off) : Act s s.startRun
  | stop (s : State) (run : s.recState = .run) : Act s ({ s with recState := .drain } : State).drainTest
  | flush (s : State) (selection : Byte) : Act s (s.flushSelected selection).drainTest
  | writeReg (s : State) (n : Byte) (v : Word) : Act s (s.writeReg n v)
  | beginItem (s : State) (c : Choice) (item : Item) (offered : s.framer = .offering c)
      (there : s.itemOf c = some item) : Act s (s.beginItem item)
  | endItem (s : State) (item : Item) (sending : s.framer = .sending item) :
      Act s (({ s with framer := .idle } : State).ended item).offer
  | requestPassed (s : State) : Act s { s with reqQueue := s.reqQueue.tail }
  | responsePassed (s : State) : Act s { s with respQueue := s.respQueue.tail }
  /-- MRST empties the path and abandons the OPEN entries (R23, R121). -/
  | mrst (s : State) : Act s { s with
      mrst := true, uqAssembly := none, mpAssembly := [], reqQueue := [], respQueue := [], ott := [],
      window := s.window.map Entry.abandon }

/-- The acts that the taking of a request or a response is made of, beside an arrival's. -/
inductive PathAct : State → State → Prop where
  /-- The forward queues and what is in assembly. -/
  | carry (s : State) (reqQueue : List Request) (respQueue : List (List RespTransfer)) (uqAssembly : Option Request)
      (mpAssembly : List RespTransfer) :
      PathAct s { s with
        reqQueue := reqQueue, respQueue := respQueue, uqAssembly := uqAssembly, mpAssembly := mpAssembly }
  | openItem (s : State) (r : Request) : PathAct s (s.openItem r .none)
  | createEntry (s : State) (r : Request) (run : s.recState = .run) (room : s.window.length < Config.windowPlaces) :
      PathAct s (s.createEntry r)
  | addMissed (s : State) (n : Nat) (k : Slot) : PathAct s (s.addMissed n k)
  | pair (s : State) (item : OttItem) (ts : List RespTransfer) (head : headItem s.ott (respId ts) = some item) :
      PathAct s (({ s with ott := withoutHead s.ott (respId ts) } : State).settleLink item ts)

/-! ### The acts' arrivals are legal -/

/-- The value of a register that is written is read from the settings alone. -/
theorem State.regValue_congr {s t : State} (regs : t.regs = s.regs) {r : Reg} (writable : regReadOnly r = false) :
    t.regValue r = s.regValue r := by
  cases r with
  | partCode | runState | curTickHi | curTickLo | windowCount | openCount | storeFree | queueCount | tableCount
  | counter c | flags => exact Bool.noConfusion writable
  | _ => simp [State.regValue, regs]

theorem SettingsLegal.congr {s t : State} (legal : SettingsLegal s) (regs : t.regs = s.regs) : SettingsLegal t := by
  intro r writable
  rw [State.regValue_congr regs writable]
  exact legal r writable

theorem SettingsLegal.cfgLegal_line {s : State} (legal : SettingsLegal s) (line : TrigLine) :
    cfgLegal (s.lineCfg line) = true := by
  cases line with
  | trgA => exact legal .lineACfg rfl
  | trgB => exact legal .lineBCfg rfl

theorem span_of_cfgLegal {v : Word} (legal : cfgLegal v = true) : 1 ≤ cfgSpan v ∧ cfgSpan v ≤ 8 := by
  simp only [cfgLegal, Bool.and_eq_true, decide_eq_true_eq] at legal
  exact ⟨legal.1.2, legal.2⟩

/-- A line's trigger has the past range and the span of its configuration (R28, R44). -/
theorem State.lineArrival_legal (s : State) (line : TrigLine) : (s.lineArrival line).Legal s where
  tag := by cases line <;> exact fun h => nomatch h
  span legal := by
    have := span_of_cfgLegal (legal.cfgLegal_line line)
    cases line <;> exact this
  first _ := by cases line <;> exact .inl rfl

/-- A TRIGGER whose arguments pass has a tag below 192 and a span of 1 to 8 (R30). -/
theorem State.commandArrival_legal (s : State) {tag : Tag} {control : Byte} (ok : triggerArgsOk tag control = true) :
    (s.commandArrival tag control).Legal s := by
  simp only [triggerArgsOk, Bool.and_eq_true, decide_eq_true_eq] at ok
  obtain ⟨⟨⟨tagOk, low⟩, high⟩, -⟩ := ok
  exact { tag := fun _ => tagOk, span := fun _ => ⟨low, high⟩, first := fun _ => .inl rfl }

/-- A FAULT trigger has the past range and FAULT_CFG's span (R99). -/
theorem State.faultArrival_legal (s : State) : s.faultArrival.Legal s where
  tag := fun h => nomatch h
  span legal := span_of_cfgLegal (legal .faultCfg rfl)
  first _ := .inl rfl

/-- A MATCH trigger begins pre ticks back, and pre is less than its span (R29, R95). -/
theorem State.matchArrival_legal (s : State) : s.matchArrival.Legal s := by
  have cfg : SettingsLegal s → 1 ≤ cfgSpan s.regs.matchCfg ∧ cfgSpan s.regs.matchCfg ≤ 8 ∧
      cfgPre s.regs.matchCfg + 1 ≤ cfgSpan s.regs.matchCfg := by
    intro legal
    have := legal .matchCfg rfl
    simp only [regLegal, State.regValue, Bool.and_eq_true] at this
    obtain ⟨⟨⟨-, low⟩, high⟩, pre⟩ := this
    exact ⟨of_decide_eq_true low, of_decide_eq_true high, of_decide_eq_true pre⟩
  exact {
    tag := fun h => nomatch h
    span := fun legal => ⟨(cfg legal).1, (cfg legal).2.1⟩
    first := fun legal => .inr ⟨_, (cfg legal).2.2, rfl⟩ }

/-- Legality reads the tick number and the settings alone. -/
theorem Arrival.Legal.congr {a : Arrival} {s t : State} (legal : a.Legal s) (tick : t.tick = s.tick)
    (regs : t.regs = s.regs) : a.Legal t := by
  have settings (h : SettingsLegal t) : SettingsLegal s := h.congr regs.symm
  have past : t.pastFirst = s.pastFirst := by unfold State.pastFirst; rw [tick, regs]
  exact {
    tag := legal.tag
    span h := legal.span (settings h)
    first h := by rw [past, tick]; exact legal.first (settings h) }

/-! ### What the acts keep, the shared operations keep -/

/-- Every act keeps the predicate. -/
def ActKept (P : State → Prop) : Prop := ∀ {s t : State}, Act s t → P s → P t

/-- Every act of the memory path keeps the predicate. -/
def PathKept (P : State → Prop) : Prop := ∀ {s t : State}, PathAct s t → P s → P t

section

variable {P : State → Prop} {s : State}

theorem kept_ite (P : State → Prop) {t u : State} {p : Prop} [Decidable p] (yes : p → P t) (no : ¬ p → P u) :
    P (if p then t else u) :=
  iteInduction yes no

theorem kept_foldl (P : State → Prop) {s : State} {α : Type} {op : State → α → State}
    (kept : ∀ {t : State} (a : α), P t → P (op t a)) (l : List α) (before : P s) : P (l.foldl op s) := by
  induction l generalizing s with
  | nil => exact before
  | cons a l ih => exact ih (kept a before)

/-- A link command keeps what its act keeps on an open link (R158). -/
theorem kept_onLink (P : State → Prop) {s : State} {f : State → State} (before : P s)
    (opened : s.rst = false → s.csIgnore = false → P (f s)) : P (s.onLink f) := by
  refine kept_ite P (fun h => ?_) (fun _ => before)
  simp only [State.linkOpen, Bool.and_eq_true, Bool.not_eq_true'] at h
  exact opened h.1 h.2

theorem ActKept.aside (act : ActKept P) (before : P s) {t : State} (same : t.owed.horizon = s.owed.horizon := by rfl)
    (eq : t = { s with
      mrst := t.mrst, devId := t.devId, lineA := t.lineA, lineB := t.lineB, periodCount := t.periodCount,
      divInForce := t.divInForce, owed := t.owed, seq := t.seq, restart := t.restart, burstNumber := t.burstNumber,
      prevAddr := t.prevAddr, statusTimer := t.statusTimer, answer := t.answer, capture := t.capture,
      counters := t.counters, pending := t.pending } := by rfl) : P t := by
  rw [eq]
  exact act (.aside s _ _ _ _ _ _ _ _ _ _ _ _ _ _ _ _ same) before

theorem ActKept.notify (act : ActKept P) (before : P s) (n : Notice) : P (s.notify n) := by
  unfold State.notify
  refine kept_ite P (fun _ => kept_ite P (fun room => act (.notice s n room) before) (fun _ => ?_)) (fun _ => before)
  exact act (.raise _ .noticeLost) (act.aside before)

theorem ActKept.countDiscard (act : ActKept P) (before : P s) (reason : DiscardReason) : P (s.countDiscard reason) := by
  cases reason with
  | cancel => exact act.aside before
  | timeout => exact act (.raise _ .timeout) (act.aside before)

theorem ActKept.discardReported (act : ActKept P) (before : P s) {k : Slot} {l : Live} (live : s.slot k = some l)
    (unparked : l.state ≠ .parked) (reason : DiscardReason) : P (s.discardReported k reason) := by
  unfold State.discardReported
  rw [live]
  exact act.notify (act.countDiscard (act (.discard s k l live unparked) before) reason) _

/-- What an admission has passed in the order of R32. -/
theorem State.fate_admitted {a : Arrival} (admitted : s.fate a = .admitted) :
    (a.source = .command → s.tagHeld a.tag = false) ∧ (mayMerge a.source = false → s.recState = .run) := by
  unfold State.fate at admitted
  split at admitted
  next => split at admitted <;> exact Fate.noConfusion admitted
  next running =>
    split at admitted
    next => exact Fate.noConfusion admitted
    next unheld => exact ⟨fun c => by simpa [c] using unheld, fun m => by simpa [m] using running⟩

/-- An arrival keeps what the acts keep; one that may merge comes in RUN only. -/
theorem ActKept.arrive (act : ActKept P) (before : P s) {a : Arrival} (legal : a.Legal s)
    (run : mayMerge a.source = true → s.recState = .run) : P (s.arrive a) := by
  unfold State.arrive
  split
  next => exact before
  next => exact act.notify (act (.raise _ .skip) (act.aside before)) _
  next => exact act.aside before
  next admitted =>
    split
    next => exact before
    next k lowest =>
      obtain ⟨unheld, plain⟩ := State.fate_admitted admitted
      have on : s.recState = .run := by
        cases merges : mayMerge a.source with
        | true => exact run merges
        | false => exact plain merges
      exact act (.admission s a k legal (State.lowestFree_eq_some.1 lowest).1 unheld (by rw [on]; decide)) before

theorem ActKept.countIf (act : ActKept P) (before : P s) (order : CountOrder) : P (s.countIf order) := by
  unfold State.countIf
  exact kept_ite P (fun _ => act (.countThrottle s) before) (fun _ => before)

theorem ActKept.advanceHorizon (act : ActKept P) (before : P s) : P s.advanceHorizon := by
  rw [State.advanceHorizon_eq_moveHorizon]
  exact act.countIf (act (.moveHorizon s) before) _

theorem ActKept.deadlineSlot (act : ActKept P) (before : P s) (k : Slot) : P (s.deadlineSlot k) := by
  unfold State.deadlineSlot
  split
  next => exact before
  next l live =>
    refine kept_ite P (fun held => ?_) (fun _ => before)
    exact act.discardReported before live (by rw [held]; exact EntryState.noConfusion) .timeout

theorem ActKept.takeDeadlines (act : ActKept P) (before : P s) : P s.takeDeadlines := by
  unfold State.takeDeadlines
  have taken : P { s with owed := { s.owed with deadlines := false } } := act.aside before
  have met : P (allSlots.foldl State.deadlineSlot { s with owed := { s.owed with deadlines := false } }) :=
    kept_foldl P (fun k kept => act.deadlineSlot kept k) allSlots taken
  exact act.countIf met .afterDeadlines

theorem ActKept.settleTick (act : ActKept P) (before : P s) : P s.settleTick :=
  State.settleTick_induction before (fun _ => act.advanceHorizon) (fun _ => act.takeDeadlines)
    (fun _ => act (.countThrottle _)) (fun _ kept => act (.rechoose _) (act.aside kept))

@[simp] theorem State.countThrottle_owed_horizon (s : State) : s.countThrottle.owed.horizon = s.owed.horizon := by
  unfold State.countThrottle
  split
  · split <;> rfl
  · rfl

@[simp] theorem State.countIf_owed_horizon (s : State) (order : CountOrder) :
    (s.countIf order).owed.horizon = s.owed.horizon := by
  unfold State.countIf
  split
  · simp
  · rfl

@[simp] theorem State.advanceHorizon_owed_horizon (s : State) : s.advanceHorizon.owed.horizon = false := by
  rw [State.advanceHorizon_eq_moveHorizon, State.countIf_owed_horizon, State.drainTest_owed, State.moveHorizon,
    State.report_eq, State.expire_eq]

@[simp] theorem State.takeDeadlines_owed_horizon (s : State) : s.takeDeadlines.owed.horizon = s.owed.horizon := by
  rw [State.takeDeadlines, State.countIf_owed_horizon, foldl_deadlineSlot_eq]

/-- An owed expiry comes before all else that is owed (log 2). -/
theorem State.settleTick_of_horizon (owed : s.owed.horizon = true) : s.settleTick = s.advanceHorizon.settleTick := by
  simp [State.settleTick, owed]

/-- A tick finds no expiry of the tick before it owed (log 2). -/
theorem State.settleTick_owed_horizon (s : State) : s.settleTick.owed.horizon = false := by
  have settled (t : State) (taken : t.owed.horizon = false) : t.settleTick.owed.horizon = false :=
    State.settleTick_induction (kept := fun u => u.owed.horizon = false) taken
      (fun u _ => u.advanceHorizon_owed_horizon) (fun u kept => u.takeDeadlines_owed_horizon.trans kept)
      (fun u kept => u.countThrottle_owed_horizon.trans kept) (fun u kept => by simpa using kept)
  cases owed : s.owed.horizon with
  | true => rw [State.settleTick_of_horizon owed]; exact settled _ s.advanceHorizon_owed_horizon
  | false => exact settled s owed

theorem ActKept.confirmSlot (act : ActKept P) (before : P s) (k : Slot) : P (s.confirmSlot k) := by
  unfold State.confirmSlot
  split
  next => exact before
  next l live =>
    refine kept_ite P (fun _ => ?_) (fun _ => before)
    have confirmed := act (.confirm s k l live) before
    dsimp only
    split
    next => exact confirmed
    next deadline held => exact act (.handOn _ k _ deadline (s.slot_setSlot_self k _) held) confirmed
    next => exact before

theorem State.confirmSlot_link (s : State) (k : Slot) :
    (s.confirmSlot k).rst = s.rst ∧ (s.confirmSlot k).csIgnore = s.csIgnore := by
  unfold State.confirmSlot
  split
  next => exact ⟨rfl, rfl⟩
  next =>
    refine kept_ite (fun t => t.rst = s.rst ∧ t.csIgnore = s.csIgnore) (fun _ => ?_) (fun _ => ⟨rfl, rfl⟩)
    dsimp only
    split
    next => exact ⟨rfl, rfl⟩
    next => rw [State.drainTest_eq, State.handOn_eq]; exact ⟨rfl, rfl⟩
    next => exact ⟨rfl, rfl⟩

theorem ActKept.linkError (act : ActKept P) (before : P s) : P s.linkError :=
  act (.raise _ .link) (act.aside before)

theorem ActKept.writeCommand (act : ActKept P) (before : P s) (n : Byte) (v : Word) : P (s.writeCommand n v) := by
  refine kept_onLink P before (fun out opened => act (.reply _ _ _ _ ?_ ?_) (act (.writeReg s n v) before))
  · rw [State.writeReg_eq]; exact out
  · rw [State.writeReg_eq]; exact opened

theorem ActKept.readCommand (act : ActKept P) (before : P s) (n : Byte) (out : s.rst = false)
    (opened : s.csIgnore = false) : P (s.readCommand n) := by
  unfold State.readCommand
  split
  next => exact act (.reply s _ _ _ out opened) before
  next => exact act (.reply _ _ _ _ out opened) (act.aside before)
  next =>
    unfold State.readTickLo
    split
    · exact act (.reply _ _ _ _ out opened) (act.aside before)
    · exact act (.reply s _ _ _ out opened) before
  next => exact act (.reply s _ _ _ out opened) before

/-- A CANCEL that is answered OK finds an entry that is not PARKED (R59). -/
theorem State.cancelStatus_ok {tag : Tag} {k : Slot} (named : s.findTag tag = some k)
    (ok : s.cancelStatus tag = Status.ok) : ∃ l, s.slot k = some l ∧ l.state ≠ .parked := by
  obtain ⟨l, live, -⟩ := State.slot_of_findTag named
  refine ⟨l, live, fun parked => ?_⟩
  simp [State.cancelStatus, named, live, parked] at ok

/-! ### The memory path -/

theorem State.createEntry_recState (s : State) (r : Request) : (s.createEntry r).recState = s.recState := rfl

theorem ActKept.fireMatch (act : ActKept P) (before : P s) (run : s.recState = .run) (r : Request) :
    P (s.fireMatch r) := by
  unfold State.fireMatch
  exact kept_ite P (fun _ => act.arrive before s.matchArrival_legal (fun _ => run)) (fun _ => before)

theorem ActKept.fireFault (act : ActKept P) (before : P s) (ts : List RespTransfer) : P (s.fireFault ts) := by
  unfold State.fireFault
  exact kept_ite P (fun fires => act.arrive before s.faultArrival_legal (fun _ => fires.1)) (fun _ => before)

theorem ActKept.dropRequest (act : ActKept P) (path : PathKept P) (before : P s) (r : Request) :
    P (s.dropRequest r) := by
  unfold State.dropRequest
  refine kept_foldl P (fun k kept => path (.addMissed _ 1 k) kept) _ (act (.raise _ .windowDrop) ?_)
  exact act.aside (path (.openItem s r) before)

theorem ActKept.recordRequest (act : ActKept P) (path : PathKept P) (before : P s) (run : s.recState = .run)
    (r : Request) : P (s.recordRequest r) := by
  unfold State.recordRequest
  split
  next room => exact act.fireMatch (path (.createEntry s r run room) before) run r
  next => exact act.fireMatch (act.dropRequest path before r) (by rw [State.dropRequest_eq]; exact run) r

theorem ActKept.takeRequest (act : ActKept P) (path : PathKept P) (before : P s) (r : Request) :
    P (s.takeRequest r) := by
  have recorded : P (if s.recState = .run then s.recordRequest r else s.openItem r .none) :=
    kept_ite P (fun run => act.recordRequest path before run r) (fun _ => path (.openItem s r) before)
  exact path (.carry _ _ _ _ _) recorded

theorem ActKept.acceptRequest (act : ActKept P) (path : PathKept P) (before : P s) (transfer : ReqTransfer) :
    P (s.acceptRequest transfer) := by
  unfold State.acceptRequest
  split
  · refine kept_ite P (fun _ => before) (fun _ => ?_)
    split
    · exact act.takeRequest path before _
    · exact path (.carry s _ _ _ _) before
  · refine kept_ite P (fun _ => before) (fun _ => kept_ite P (fun _ => ?_) (fun _ => path (.carry s _ _ _ _) before))
    exact act.takeRequest path (path (.carry s s.reqQueue s.respQueue none s.mpAssembly) before) _
  · exact before
  · exact before

theorem ActKept.pair (act : ActKept P) (path : PathKept P) (before : P s) (ts : List RespTransfer) :
    P (s.pair ts) := by
  unfold State.pair
  split
  next item head => exact path (.pair s item ts head) before
  next => exact act.notify (act (.raise _ .orphan) (act.aside before)) _

theorem ActKept.takeResponse (act : ActKept P) (path : PathKept P) (before : P s) (ts : List RespTransfer) :
    P (s.takeResponse ts) :=
  path (.carry _ _ _ _ _) (act.fireFault (act.pair path before ts) ts)

theorem ActKept.acceptResponse (act : ActKept P) (path : PathKept P) (before : P s) (transfer : RespTransfer) :
    P (s.acceptResponse transfer) := by
  unfold State.acceptResponse
  refine kept_ite P (fun _ => before) (fun _ => kept_ite P (fun _ => ?_) (fun _ => path (.carry s _ _ _ _) before))
  exact act.takeResponse path (path (.carry s s.reqQueue s.respQueue s.uqAssembly []) before) _

end

/-! ### What the acts keep, every step keeps -/

theorem State.flushSelected_window (s : State) : s.flushSelected 0x01 = s.flushWindow := by simp [State.flushSelected]
theorem State.flushSelected_triggers (s : State) : s.flushSelected 0x02 = s.flushTriggers := by simp [State.flushSelected]
theorem State.flushSelected_events (s : State) : s.flushSelected 0x04 = s.flushEvents := by simp [State.flushSelected]
theorem State.flushSelected_notices (s : State) : s.flushSelected 0x08 = s.flushNotices := by simp [State.flushSelected]
theorem State.flushSelected_counters (s : State) : s.flushSelected 0x10 = s.flushCounters := by simp [State.flushSelected]

/-- A FLUSH of some selection, the test for the end of DRAIN, and the answer; the five FLUSH rows are a FLUSH of one
selection (log 19). -/
theorem ActKept.flushCommand {P : State → Prop} {s : State} (act : ActKept P) (before : P s) (selection : Byte)
    (c : Instr) {op : State → State} (flushes : s.flushSelected selection = op s) :
    P (s.onLink (fun s => (op s).drainTest.reply c .ok [])) := by
  refine kept_onLink P before (fun out opened => ?_)
  rw [← flushes]
  refine act (.reply _ _ _ _ ?_ ?_) (act (.flush s selection) before)
  · rw [State.drainTest_rst, State.flushSelected_eq]; exact out
  · rw [State.drainTest_csIgnore, State.flushSelected_eq]; exact opened

/-! ### The commands that branch -/

section

variable {P : State → Prop} {s : State}

theorem ActKept.execTick (act : ActKept P) (before : P s) (order : CountOrder) :
    ∃ t, exec (.tick order) s = .next t ∧ P t := by
  refine ⟨_, rfl, kept_ite P (fun _ => before) (fun _ => ?_)⟩
  have ticked := act (.tick _ s.settleTick_owed_horizon) (act.settleTick before)
  cases order with
  | atOnce => exact act (.countThrottle _) ticked
  | afterExpiry => exact act.aside ticked
  | afterDeadlines => exact act.aside ticked

theorem ActKept.execLineEdge (act : ActKept P) (before : P s) (line : TrigLine) (sample : Bool) :
    ∃ t, exec (.lineEdge line sample) s = .next t ∧ P t := by
  have sampled : P (s.sampled line sample) := by
    cases line <;> exact act.aside before
  have legal : (s.lineArrival line).Legal (s.sampled line sample) := by
    cases line <;> exact (s.lineArrival_legal _).congr rfl rfl
  have never : mayMerge (s.lineArrival line).source = true → (s.sampled line sample).recState = .run := by
    cases line <;> exact fun h => nomatch h
  exact ⟨_, rfl, kept_ite P (fun _ => before)
    (fun _ => kept_ite P (fun _ => act.arrive sampled legal never) (fun _ => sampled))⟩

theorem ActKept.execTrigger (act : ActKept P) (before : P s) (tag : Tag) (control : Byte) :
    ∃ t, exec (.trigger tag control) s = .next t ∧ P t := by
  refine ⟨_, rfl, kept_onLink P before (fun out opened => kept_ite P (fun ok => ?_)
    (fun _ => act (.reply s _ _ _ out opened) before))⟩
  have arrived := act.arrive before (s.commandArrival_legal ok) (fun h => nomatch h)
  refine act (.reply _ _ _ _ ?_ ?_) arrived
  · rw [State.arrive_eq]; exact out
  · rw [State.arrive_eq]; exact opened

theorem ActKept.execConfirm (act : ActKept P) (before : P s) (tag : Tag) :
    ∃ t, exec (.confirm tag) s = .next t ∧ P t := by
  refine ⟨_, rfl, kept_onLink P before (fun out opened => ?_)⟩
  split
  · exact act (.reply s _ _ _ out opened) before
  · refine act (.reply _ _ _ _ ?_ ?_) (act.confirmSlot before _)
    · rw [(s.confirmSlot_link _).1]; exact out
    · rw [(s.confirmSlot_link _).2]; exact opened

theorem ActKept.execCancel (act : ActKept P) (before : P s) (tag : Tag) :
    ∃ t, exec (.cancel tag) s = .next t ∧ P t := by
  refine ⟨_, rfl, kept_onLink P before (fun out opened => ?_)⟩
  split
  · exact act (.reply s _ _ _ out opened) before
  next k named =>
    split
    next ok =>
      obtain ⟨l, live, unparked⟩ := State.cancelStatus_ok named ok
      refine act (.reply _ _ _ _ ?_ ?_) (act.discardReported before live unparked .cancel)
      · rw [State.discardReported_eq]; exact out
      · rw [State.discardReported_eq]; exact opened
    next => exact act (.reply s _ _ _ out opened) before

theorem ActKept.execItemBegin (act : ActKept P) (before : P s) :
    ∃ t, exec (.itemBegin) s = .next t ∧ P t := by
  refine ⟨_, rfl, ?_⟩
  split
  next c offered =>
    split
    next item there => exact act (.beginItem s c item offered there) before
    next => exact before
  · exact before
  · exact before

end

/-- Every command is a chain of acts, with the transfers of the memory path one by one. -/
theorem ActKept.exec {P : State → Prop} (act : ActKept P)
    (request : ∀ (s : State) (transfer : ReqTransfer), P s → P (s.acceptRequest transfer))
    (response : ∀ (s : State) (transfer : RespTransfer), P s → P (s.acceptResponse transfer)) {s : State}
    (before : P s) (c : Instr) : ∃ t, exec c s = .next t ∧ P t := by
  cases c with
  -- the tick and the actions it owes
  | tick order => exact act.execTick before order
  | horizonAdvance => exact ⟨_, rfl, kept_ite P (fun _ => before) (fun _ => act.advanceHorizon before)⟩
  | decisionDeadline => exact ⟨_, rfl, kept_ite P (fun _ => before) (fun _ => act.takeDeadlines before)⟩
  | throttleTimeout => exact ⟨_, rfl, kept_ite P (fun _ => act (.countThrottle s) before) (fun _ => before)⟩
  | statusFrameDue => exact ⟨_, rfl, act (.rechoose _) (act.aside before)⟩
  -- the memory path
  | requestTaken transfers => exact ⟨_, rfl, kept_foldl P (fun transfer kept => request _ transfer kept) transfers before⟩
  | responseTaken transfers =>
    exact ⟨_, rfl, kept_foldl P (fun transfer kept => response _ transfer kept) transfers before⟩
  | requestPassed => exact ⟨_, rfl, act (.requestPassed s) before⟩
  | responsePassed => exact ⟨_, rfl, act (.responsePassed s) before⟩
  | mrstAssert => exact ⟨_, rfl, kept_ite P (fun _ => before) (fun _ => act (.mrst s) before)⟩
  | mrstRelease => exact ⟨_, rfl, act.aside before⟩
  -- the pins
  | rstNAssert => exact ⟨_, rfl, act (.reset s) before⟩
  | rstNRelease devid levelA levelB csLow =>
    exact ⟨_, rfl, kept_ite P (fun asserted => act (.release s _ _ _ _ asserted) before) (fun _ => before)⟩
  | csNRisesAfterRelease => exact ⟨_, rfl, kept_ite P (fun _ => before) (fun _ => act (.csRises s) before)⟩
  | lineEdge line sample => exact act.execLineEdge before line sample
  -- register access
  | nop => exact ⟨_, rfl, kept_onLink P before (fun out opened => act (.reply s _ _ _ out opened) before)⟩
  | readReg n => exact ⟨_, rfl, kept_onLink P before (act.readCommand before n)⟩
  | curTickHiRead => exact ⟨_, rfl, kept_onLink P before (act.readCommand before Config.curTickHiNum)⟩
  | curTickLoRead => exact ⟨_, rfl, kept_onLink P before (act.readCommand before Config.curTickLoNum)⟩
  | writeReg | latencyWrite | maxRecordsWrite | throttleMarkWrite | burstSizeWrite | statusPeriodWrite
  | flagMaskWrite => exact ⟨_, rfl, act.writeCommand before _ _⟩
  -- trigger and decision commands
  | trigger tag control => exact act.execTrigger before tag control
  | confirm tag => exact act.execConfirm before tag
  | cancel tag => exact act.execCancel before tag
  | queryTag tag => exact ⟨_, rfl, kept_onLink P before (fun out opened => act (.reply s _ _ _ out opened) before)⟩
  -- run control and flushing
  | start =>
    exact ⟨_, rfl, kept_onLink P before (fun out opened => kept_ite P
      (fun off => act (.reply _ _ _ _ out opened) (act (.start s off) before))
      (fun _ => act (.reply s _ _ _ out opened) before))⟩
  | stop =>
    refine ⟨_, rfl, kept_onLink P before (fun out opened => ?_)⟩
    split
    next run => exact act (.reply _ _ _ _ (by simpa using out) (by simpa using opened)) (act (.stop s run) before)
    next => exact act (.reply s _ _ _ out opened) before
  | flush selection =>
    refine ⟨_, rfl, kept_onLink P before (fun out opened => kept_ite P (fun _ => ?_)
      (fun _ => act (.reply s _ _ _ out opened) before))⟩
    have flushed := act.flushCommand before selection (.flush selection) (op := fun s => s.flushSelected selection) rfl
    rwa [State.onLink_open out opened] at flushed
  | flushWindow => exact ⟨_, rfl, act.flushCommand before 0x01 .flushWindow s.flushSelected_window⟩
  | flushTriggers => exact ⟨_, rfl, act.flushCommand before 0x02 .flushTriggers s.flushSelected_triggers⟩
  | flushEvents => exact ⟨_, rfl, act.flushCommand before 0x04 .flushEvents s.flushSelected_events⟩
  | flushNotices => exact ⟨_, rfl, act.flushCommand before 0x08 .flushNotices s.flushSelected_notices⟩
  | flushCounters => exact ⟨_, rfl, act.flushCommand before 0x10 .flushCounters s.flushSelected_counters⟩
  -- the control link's own commands
  | takeFlags =>
    exact ⟨_, rfl, kept_onLink P before (fun out opened => act (.reply _ _ _ _ out opened) (act (.takeFlags s) before))⟩
  | unknownCommand | badCheckByte =>
    exact ⟨_, rfl, kept_onLink P before (fun out opened => act (.reply _ _ _ _ out opened) (act.linkError before))⟩
  | frameAbort received =>
    exact ⟨_, rfl, kept_onLink P before (fun _ opened => act.aside (act (.abort s.linkError opened) (act.linkError before)))⟩
  -- the trace port
  | itemBegin => exact act.execItemBegin before
  | itemEnd =>
    refine ⟨_, rfl, ?_⟩
    split
    next item sending => exact act (.endItem s item sending) before
    · exact before
    · exact before

/-- What every act and every transfer keeps, every step keeps. -/
theorem ActKept.step {P : State → Prop} (act : ActKept P)
    (request : ∀ (s : State) (transfer : ReqTransfer), P s → P (s.acceptRequest transfer))
    (response : ∀ (s : State) (transfer : RespTransfer), P s → P (s.acceptResponse transfer)) {s t : State}
    (ran : step s = .next t) (before : P s) : P t := by
  unfold Machine.step at ran
  split at ran
  next =>
    obtain rfl := Host.Outcome.next.inj ran
    unfold State.refclkPeriod
    exact kept_ite P (fun _ => before) (fun _ => kept_ite P (fun _ => act.aside before) (fun _ => before))
  next c rest _ =>
    obtain ⟨u, ran', kept⟩ := act.exec request response (s := { s with pending := rest }) (act.aside before) c
    obtain rfl : u = t := Host.Outcome.next.inj (ran'.symm.trans ran)
    exact kept

/-- What every act keeps, on the memory path and off it, every step keeps. -/
theorem step_keeps {P : State → Prop} (act : ActKept P) (path : PathKept P) {s t : State} (ran : step s = .next t)
    (before : P s) : P t :=
  act.step (fun _ transfer kept => act.acceptRequest path kept transfer)
    (fun _ transfer kept => act.acceptResponse path kept transfer) ran before

end Sys2Proof.Machine
end

section
/-! What the composed operations do to the fields that several invariants read: the window up to its marks, the length of the
Event Queue, a FLUSH selection by selection, and the setting registers one by one. -/

-- One theorem after another: side by side they ask for more threads than the check's memory limit allows.
set_option Elab.async false

namespace Sys2Proof.Machine

open Sys2Proof

/-! ### The window up to its marks -/

/-- An entry without its marks. -/
def Entry.bare (e : Entry) : Entry := { e with marks := [] }

/-- The window as it stands but for the marks. -/
def State.bareWindow (s : State) : List Entry := s.window.map Entry.bare

theorem bareWindow_map {s : State} {f : Entry → Entry} (marks : ∀ e, (f e).bare = e.bare) :
    (s.window.map f).map Entry.bare = s.bareWindow := by
  rw [List.map_map]
  exact List.map_congr_left (fun e _ => marks e)

@[simp] theorem State.unmarkAll_bareWindow (s : State) (k : Slot) : (s.unmarkAll k).bareWindow = s.bareWindow :=
  bareWindow_map (fun _ => rfl)

@[simp] theorem State.admitInto_bareWindow (s : State) (a : Arrival) (k : Slot) :
    (s.admitInto a k).bareWindow = s.bareWindow := by
  refine bareWindow_map (fun e => ?_)
  split
  · rfl
  · rfl

/-- The window after a slot's marks go where its entry is COLLECTING (R21). -/
theorem State.unmarkIf_bareWindow (s : State) (k : Slot) (p : Prop) [Decidable p] :
    (if p then s.unmarkAll k else s).bareWindow = s.bareWindow :=
  kept_ite (fun t => t.bareWindow = s.bareWindow) (fun _ => s.unmarkAll_bareWindow k) (fun _ => rfl)

@[simp] theorem State.discard_bareWindow (s : State) (k : Slot) : (s.discard k).bareWindow = s.bareWindow := by
  unfold State.discard
  split
  · rfl
  · rw [State.bareWindow, State.drainTest_window, State.storeChanged_window, State.setSlot_window]
    exact s.unmarkIf_bareWindow k _

@[simp] theorem State.flushSlot_bareWindow (s : State) (k : Slot) : (s.flushSlot k).bareWindow = s.bareWindow := by
  unfold State.flushSlot
  split
  · rfl
  · exact s.unmarkIf_bareWindow k _

@[simp] theorem State.flushTriggers_bareWindow (s : State) : s.flushTriggers.bareWindow = s.bareWindow := by
  have flushed : (allSlots.foldl State.flushSlot s).bareWindow = s.bareWindow :=
    kept_foldl (fun t => t.bareWindow = s.bareWindow) (op := State.flushSlot)
      (fun k kept => (State.flushSlot_bareWindow _ k).trans kept) allSlots rfl
  unfold State.bareWindow at flushed ⊢
  rw [State.flushTriggers, State.storeChanged_window]
  dsimp only
  exact flushed

theorem length_of_bareWindow_eq {s t : State} (same : t.bareWindow = s.bareWindow) :
    t.window.length = s.window.length := by
  simpa [State.bareWindow] using congrArg List.length same

/-! ### The window's action at a tick -/

theorem State.expire_window (s : State) (h : Tick) :
    (s.expire h).window = s.window.filter (fun e => !atOrBefore e.reqTick h) := by
  rw [State.expire, foldl_expireEntry_eq]

@[simp] theorem State.moveHorizon_window (s : State) : s.moveHorizon.window =
    s.window.filter (fun e => !atOrBefore e.reqTick (horizonOf s.tick s.regs.latency)) := by
  unfold State.moveHorizon
  dsimp only
  rw [State.report_eq]
  dsimp only
  rw [State.expire_window]

/-- What the window's action may change. -/
theorem State.moveHorizon_eq (s : State) : s.moveHorizon = { s with
    horizon := horizonOf s.tick s.regs.latency, owed := { s.owed with horizon := false },
    window := s.moveHorizon.window, slots := s.moveHorizon.slots, counters := s.moveHorizon.counters,
    flags := s.moveHorizon.flags, ott := s.moveHorizon.ott, queue := s.moveHorizon.queue,
    framer := s.moveHorizon.framer, parking := s.moveHorizon.parking } := by
  unfold State.moveHorizon
  dsimp only
  rw [State.report_eq, State.expire_eq]

/-- A detachment keeps the number of OTT items (R16). -/
theorem State.expireEntry_ott_length (s : State) (e : Entry) : (s.expireEntry e).ott.length = s.ott.length := by
  unfold State.expireEntry
  refine kept_ite (fun t => t.ott.length = s.ott.length) (fun _ => ?_) (fun _ => ?_)
  · rw [State.detach, List.length_map, foldl_offerRecord_eq]
  · rw [foldl_offerRecord_eq]

theorem State.expire_ott_length (s : State) (h : Tick) : (s.expire h).ott.length = s.ott.length := by
  unfold State.expire
  exact kept_foldl (fun t => t.ott.length = s.ott.length) (op := State.expireEntry)
    (fun e kept => (State.expireEntry_ott_length _ e).trans kept) _ rfl

theorem State.moveHorizon_ott_length (s : State) : s.moveHorizon.ott.length = s.ott.length := by
  unfold State.moveHorizon
  dsimp only
  rw [State.report_eq]
  dsimp only
  rw [State.expire_ott_length]

/-! ### The Event Queue's places (R77) -/

section

variable {s : State}

theorem State.queueRoom_iff : s.queueRoom = true ↔ s.queue.length < Config.queuePlaces := by
  unfold State.queueRoom
  exact decide_eq_true_iff

/-- A hand-over into a free place keeps the queue within its places. -/
theorem State.handOver_queue_fits (room : s.queueRoom = true) (k : Slot) :
    (s.handOver k).queue.length ≤ Config.queuePlaces := by
  have room := State.queueRoom_iff.1 room
  unfold State.handOver
  split
  · exact Nat.le_of_lt room
  · rw [State.rechoose_queue, State.setSlot_queue, List.length_append]
    exact room

theorem State.handOn_queue_fits (fits : s.queue.length ≤ Config.queuePlaces) (k : Slot) :
    (s.handOn k).queue.length ≤ Config.queuePlaces := by
  unfold State.handOn
  split
  next room => exact State.handOver_queue_fits room k
  next => rw [State.park_eq]; exact fits

theorem State.report_queue_fits (fits : s.queue.length ≤ Config.queuePlaces) (h : Tick) :
    (s.report h).queue.length ≤ Config.queuePlaces := by
  refine kept_foldl (fun t => t.queue.length ≤ Config.queuePlaces) (fun {t} k fits => ?_) allSlots fits
  unfold State.reportSlot
  split
  · exact fits
  · refine kept_ite (fun t => t.queue.length ≤ Config.queuePlaces) (fun _ => ?_) (fun _ => fits)
    unfold State.endCollection
    split
    · exact fits
    · dsimp only
      split
      · exact fits
      · exact State.handOn_queue_fits (s := t.setSlot k _) fits k

theorem State.moveHorizon_queue_fits (s : State) (fits : s.queue.length ≤ Config.queuePlaces) :
    s.moveHorizon.queue.length ≤ Config.queuePlaces := by
  unfold State.moveHorizon
  refine State.report_queue_fits ?_ _
  rw [State.expire_eq]
  exact fits

theorem serveParking_queue_fits (l : List Slot) (fits : s.queue.length ≤ Config.queuePlaces) :
    (serveParking l s).queue.length ≤ Config.queuePlaces := by
  induction l generalizing s with
  | nil => exact fits
  | cons k rest ih =>
    unfold serveParking
    split
    next room => exact ih (State.handOver_queue_fits (s := { s with parking := rest }) room k)
    next => exact fits

theorem State.flushEvents_queue_fits (s : State) : s.flushEvents.queue.length ≤ Config.queuePlaces := by
  rw [State.flushEvents, State.rechoose_queue]
  refine serveParking_queue_fits _ ?_
  rw [State.storeChanged_queue]
  split
  · rw [List.length_take]; exact (min_le_left _ _).trans (by decide)
  · exact Nat.zero_le _

theorem State.eventLeaves_queue_fits (fits : s.queue.length ≤ Config.queuePlaces) :
    s.eventLeaves.queue.length ≤ Config.queuePlaces := by
  rw [State.eventLeaves, State.drainTest_queue]
  refine serveParking_queue_fits _ ?_
  rw [State.count_queue, List.length_tail]
  exact (Nat.sub_le _ _).trans fits

theorem length_dropHeadRecord (q : List Event) : (dropHeadRecord q).length = q.length := by
  cases q <;> rfl

theorem State.freeRecord_queue (s : State) : s.freeRecord.queue = dropHeadRecord s.queue := by
  rw [State.freeRecord, State.storeChanged_queue]

/-- What the end of an item may change. -/
theorem State.ended_eq (s : State) (item : Item) : s.ended item = { s with
    notices := (s.ended item).notices, burst := (s.ended item).burst, queue := (s.ended item).queue,
    suspended := (s.ended item).suspended, inTransmission := (s.ended item).inTransmission,
    prevAddr := (s.ended item).prevAddr, counters := (s.ended item).counters, slots := (s.ended item).slots,
    framer := (s.ended item).framer, parking := (s.ended item).parking, recState := (s.ended item).recState,
    flags := (s.ended item).flags } := by
  cases item with
  | eventHeader h =>
    unfold State.ended
    dsimp only
    split
    · rw [State.eventLeaves_eq]
    · rfl
  | record r o a =>
    unfold State.ended
    dsimp only
    split
    · rw [State.eventLeaves_eq, State.freeRecord_eq]
    · rw [State.freeRecord_eq]
  | _ => rfl

theorem State.ended_queue_fits (fits : s.queue.length ≤ Config.queuePlaces) (item : Item) :
    (s.ended item).queue.length ≤ Config.queuePlaces := by
  cases item with
  | eventHeader h =>
    exact kept_ite (fun t => t.queue.length ≤ Config.queuePlaces) (fun _ => State.eventLeaves_queue_fits fits) (fun _ => fits)
  | record r o a =>
    have freed : s.freeRecord.queue.length ≤ Config.queuePlaces := by
      rw [State.freeRecord_queue, length_dropHeadRecord]; exact fits
    exact kept_ite (fun t => t.queue.length ≤ Config.queuePlaces) (fun _ => State.eventLeaves_queue_fits freed)
      (fun _ => freed)
  | _ => exact fits

end

/-! ### The beginning of an item -/

/-- What the beginning of an item may change. -/
theorem State.beginItem_eq (s : State) (item : Item) : s.beginItem item = { s with
    framer := .sending item, statusTimer := 0, restart := false, burst := (s.beginItem item).burst,
    burstNumber := (s.beginItem item).burstNumber, inTransmission := (s.beginItem item).inTransmission,
    prevAddr := (s.beginItem item).prevAddr } := by
  cases item with
  | _ => rfl

/-! ### FLUSH, selection by selection -/

/-- What each of the five selections keeps, a FLUSH keeps (R180). -/
theorem kept_flushSelected (P : State → Prop) {s : State} (before : P s) (window : ∀ t, P t → P t.flushWindow)
    (triggers : ∀ t, P t → P t.flushTriggers) (events : ∀ t, P t → P t.flushEvents)
    (notices : ∀ t, P t → P t.flushNotices) (counters : ∀ t, P t → P t.flushCounters) (selection : Byte) :
    P (s.flushSelected selection) := by
  have step (p : Bool) (op : State → State) (keeps : ∀ t, P t → P (op t)) (t : State) (before : P t) :
      P (if p then op t else t) := kept_ite P (fun _ => keeps t before) (fun _ => before)
  unfold State.flushSelected
  exact step _ _ counters _ (step _ _ notices _ (step _ _ events _ (step _ _ triggers _ (step _ _ window _ before))))

/-! ### The setting registers one by one (R160) -/

/-- A write of one setting register leaves the others as they are. -/
theorem State.regValue_put_of_ne (s : State) {r r' : Reg} (v : Word) (other : r' ≠ r) (writable : regReadOnly r' = false) :
    ({ s with regs := s.regs.put r v } : State).regValue r' = s.regValue r' := by
  cases r with
  | unit k f =>
    cases r' with
    | unit k' f' =>
      show MatchUnit.get (Vector.get _ k') f' = MatchUnit.get (s.regs.units.get k') f'
      simp only [Settings.put, Vector.get_eq_getElem, Vector.getElem_set]
      split
      next same =>
        obtain rfl : k = k' := Fin.ext same
        have field : f' ≠ f := fun e => other (by rw [e])
        cases f <;> cases f' <;> first | rfl | exact absurd rfl field
      next => rfl
    | _ => rfl
  | _ => cases r' <;> first | rfl | exact absurd rfl other | exact Bool.noConfusion writable

/-- A write answered OK is to a writable register with a value that it takes (R160). -/
theorem State.writeStatus_ok {s : State} {n : Byte} {v : Word} (ok : s.writeStatus n v = .ok) :
    ∃ r, regOfNum n = some r ∧ regReadOnly r = false ∧ regLegal r v = true ∧
      (regRunLocked r = true → s.recState = .off) := by
  unfold State.writeStatus at ok
  split at ok
  next => exact Status.noConfusion ok
  next r named =>
    refine ⟨r, named, ?_⟩
    cases readOnly : regReadOnly r with
    | true => simp [readOnly] at ok
    | false =>
      cases legal : regLegal r v with
      | false => simp [readOnly, legal] at ok
      | true =>
        refine ⟨rfl, rfl, fun locked => ?_⟩
        by_contra running
        simp [readOnly, legal, locked, running] at ok

/-- A write is refused and changes nothing, or replaces one register and does what that register's write does (R160). -/
theorem State.writeReg_cases (s : State) (n : Byte) (v : Word) :
    s.writeReg n v = s ∨ ∃ r, regReadOnly r = false ∧ regLegal r v = true ∧ (regRunLocked r = true → s.recState = .off) ∧
      s.writeReg n v = ({ s with regs := s.regs.put r v } : State).applyWrite r := by
  unfold State.writeReg
  split
  next r ok named =>
    obtain ⟨r', named', writable, legal, locked⟩ := State.writeStatus_ok ok
    obtain rfl : r' = r := Option.some.inj (named'.symm.trans named)
    exact .inr ⟨r', writable, legal, locked, rfl⟩
  next => exact .inl rfl

end Sys2Proof.Machine
end

section
/-! Every step leaves each setting within its range, no flag bit where no flag stands, the queues within their places, and the
link's frame within CS_N's low level. -/

-- One theorem after another: side by side they ask for more threads than the check's memory limit allows.
set_option Elab.async false

namespace Sys2Proof.Machine

open Sys2Proof

section

variable {s t : State}

/-! ### The settings (R160) -/

theorem SettingsLegal.writeReg (legal : SettingsLegal s) (n : Byte) (v : Word) : SettingsLegal (s.writeReg n v) := by
  obtain same | ⟨r, writable, inRange, -, wrote⟩ := s.writeReg_cases n v
  · rw [same]; exact legal
  · rw [wrote]
    refine SettingsLegal.congr (s := { s with regs := s.regs.put r v }) (fun r' writable' => ?_)
      (by rw [State.applyWrite_eq])
    by_cases which : r' = r
    · subst which
      rw [State.regValue_put_self s r' v writable]
      exact inRange
    · rw [State.regValue_put_of_ne s v which writable']
      exact legal r' writable'

/-- The values of table 11.1 are in range. -/
theorem settingsLegal_reset : SettingsLegal State.reset := by
  intro r writable
  cases r with
  | unit k f =>
    have all : ∀ k : Fin 4, ∀ f : UnitField, regLegal (.unit k f) (State.reset.regValue (.unit k f)) = true := by
      intro k f
      cases f <;> revert k <;> decide
    exact all k f
  | partCode | runState | curTickHi | curTickLo | windowCount | openCount | storeFree | queueCount | tableCount
  | counter c | flags => exact Bool.noConfusion writable
  | _ => decide

/-- Only a write and RST_N reach the settings. -/
theorem settingsLegal_actKept : ActKept SettingsLegal := by
  intro s t act legal
  cases act with
  | writeReg n v => exact legal.writeReg n v
  | reset => exact settingsLegal_reset.congr rfl
  | countThrottle => exact legal.congr (by rw [State.countThrottle_eq])
  | moveHorizon => exact legal.congr (by rw [State.drainTest_eq, State.moveHorizon_eq])
  | discard => exact legal.congr (by rw [State.discard_eq])
  | handOn => exact legal.congr (by rw [State.drainTest_eq, State.handOn_eq])
  | flush => exact legal.congr (by rw [State.drainTest_eq, State.flushSelected_eq])
  | beginItem => exact legal.congr (by rw [State.beginItem_eq])
  | endItem => exact legal.congr (by rw [State.offer_regs, State.ended_eq])
  | rechoose | notice | stop => exact legal.congr (by simp)
  | _ => exact legal.congr rfl

/-- The path leaves the settings. -/
theorem settingsLegal_pathKept : PathKept SettingsLegal := by
  intro s t act legal
  cases act with
  | addMissed => exact legal.congr (by rw [State.addMissed_eq])
  | pair => exact legal.congr (by rw [State.settleLink_eq])
  | _ => exact legal.congr rfl

/-! ### The flag word (R167) -/

theorem FlagsLegal.congr (legal : FlagsLegal s) (flags : t.flags = s.flags) : FlagsLegal t := by
  unfold FlagsLegal
  rw [flags]
  exact legal

/-- A flag stands at one of the nine low bits (11.2). -/
theorem FlagsLegal.raise (legal : FlagsLegal s) (f : Flag) : FlagsLegal (s.raise f) := by
  have bit : flagBit f &&& 0xFE00 = 0 := by cases f <;> decide
  unfold FlagsLegal at *
  rw [State.raise_flags, BitVec.and_comm, BitVec.and_or_distrib_left, BitVec.and_comm, legal, BitVec.and_comm, bit]
  rfl

theorem FlagsLegal.drainTest (legal : FlagsLegal s) : FlagsLegal s.drainTest := by
  unfold State.drainTest
  exact kept_ite FlagsLegal (fun _ => FlagsLegal.raise (s := { s with recState := .off }) legal .drained) (fun _ => legal)

theorem FlagsLegal.countThrottle (legal : FlagsLegal s) : FlagsLegal s.countThrottle := by
  unfold State.countThrottle
  refine kept_ite FlagsLegal (fun _ => kept_ite FlagsLegal (fun _ => ?_) (fun _ => legal.congr rfl)) (fun _ => legal.congr rfl)
  exact FlagsLegal.raise (legal.congr rfl) .throttle

theorem FlagsLegal.offerRecord (legal : FlagsLegal s) (r : Record) (k : Slot) : FlagsLegal (s.offerRecord r k) := by
  unfold State.offerRecord
  split
  · exact legal
  · refine kept_ite FlagsLegal (fun _ => kept_ite FlagsLegal (fun _ => legal.congr rfl) (fun _ => ?_))
      (fun _ => legal.congr rfl)
    exact FlagsLegal.raise (legal.congr rfl) .storeFull

theorem FlagsLegal.expireEntry (legal : FlagsLegal s) (e : Entry) : FlagsLegal (s.expireEntry e) := by
  have offered : FlagsLegal ((allSlots.filter (fun k => e.marks.contains k)).foldl (fun t k => t.offerRecord e.copy k) s) :=
    kept_foldl FlagsLegal (op := fun t k => t.offerRecord e.copy k) (fun k kept => kept.offerRecord e.copy k) _ legal
  unfold State.expireEntry
  exact kept_ite FlagsLegal (fun _ => offered.congr rfl) (fun _ => offered)

theorem FlagsLegal.moveHorizon (legal : FlagsLegal s) : FlagsLegal s.moveHorizon := by
  unfold State.moveHorizon
  refine FlagsLegal.congr ?_ (State.report_flags _ _)
  unfold State.expire
  exact kept_foldl FlagsLegal (op := State.expireEntry) (fun e kept => kept.expireEntry e) _ (legal.congr rfl)

theorem FlagsLegal.discard (legal : FlagsLegal s) (k : Slot) : FlagsLegal (s.discard k) := by
  unfold State.discard
  split
  · exact legal
  · refine FlagsLegal.drainTest (legal.congr ?_)
    rw [State.storeChanged_flags, State.setSlot_flags]
    exact kept_ite (fun t => t.flags = s.flags) (fun _ => rfl) (fun _ => rfl)

theorem FlagsLegal.eventLeaves (legal : FlagsLegal s) : FlagsLegal s.eventLeaves := by
  unfold State.eventLeaves
  exact FlagsLegal.drainTest (legal.congr (State.placesFreed_flags _))

theorem FlagsLegal.ended (legal : FlagsLegal s) (item : Item) : FlagsLegal (s.ended item) := by
  cases item with
  | eventHeader h => exact kept_ite FlagsLegal (fun _ => legal.eventLeaves) (fun _ => legal)
  | record r o a =>
    have freed : FlagsLegal s.freeRecord := legal.congr s.freeRecord_flags
    exact kept_ite FlagsLegal (fun _ => freed.eventLeaves) (fun _ => freed)
  | _ => exact legal.congr rfl

/-- Only a flag's cause, TAKE_FLAGS and RST_N reach the flag word. -/
theorem flagsLegal_actKept : ActKept FlagsLegal := by
  intro s t act legal
  cases act with
  | raise f => exact legal.raise f
  | takeFlags => exact (rfl : (0 : Word) &&& 0xFE00 = 0)
  | reset => exact (rfl : (0 : Word) &&& 0xFE00 = 0)
  | countThrottle => exact legal.countThrottle
  | moveHorizon => exact legal.moveHorizon.drainTest
  | discard k => exact legal.discard k
  | handOn => exact (legal.congr (State.handOn_flags s _)).drainTest
  | stop => exact FlagsLegal.drainTest (legal.congr rfl)
  | flush selection => exact (legal.congr (s.flushSelected_flags selection)).drainTest
  | beginItem => exact legal.congr (by rw [State.beginItem_eq])
  | endItem item => exact (FlagsLegal.ended (s := { s with framer := .idle }) legal item).congr (State.offer_flags _)
  | rechoose | notice => exact legal.congr (by simp)
  | writeReg => exact legal.congr (s.writeReg_flags _ _)
  | _ => exact legal.congr rfl

/-- The path sets no flag but by a flag's cause. -/
theorem flagsLegal_pathKept : PathKept FlagsLegal := by
  intro s t act legal
  cases act with
  | addMissed => exact legal.congr (by rw [State.addMissed_eq])
  | pair => exact legal.congr (State.settleLink_flags _ _ _)
  | _ => exact legal.congr rfl

/-! ### The link's frame (R151, R158) -/

theorem FrameSound.congr (sound : FrameSound s) (rst : t.rst = s.rst) (ignore : t.csIgnore = s.csIgnore)
    (low : t.csLow = s.csLow) (frame : t.frame = s.frame) : FrameSound t := by
  unfold FrameSound
  rw [rst, ignore, low, frame]
  exact sound

/-- An open frame stands on the open link only, and closes with CS_N. -/
theorem frameSound_actKept : ActKept FrameSound := by
  intro s t act sound
  cases act with
  | reply c status data out opened =>
    exact ⟨fun low => Bool.noConfusion low, fun asserted => Bool.noConfusion (out.symm.trans asserted),
      fun ignored => Bool.noConfusion (opened.symm.trans ignored)⟩
  | csRises => exact ⟨fun _ => rfl, fun _ => rfl, fun ignored => Bool.noConfusion ignored⟩
  | abort opened => exact ⟨fun _ => rfl, fun _ => rfl, fun ignored => Bool.noConfusion (opened.symm.trans ignored)⟩
  | reset => exact ⟨fun _ => rfl, fun _ => rfl, fun ignored => Bool.noConfusion ignored⟩
  | release devId lineA lineB csLow asserted =>
    obtain ⟨-, none, -⟩ := sound
    exact ⟨fun _ => none asserted, fun _ => none asserted, fun ignored => ⟨ignored, none asserted⟩⟩
  | countThrottle => rw [State.countThrottle_eq]; exact sound.congr rfl rfl rfl rfl
  | moveHorizon => rw [State.drainTest_eq, State.moveHorizon_eq]; exact sound.congr rfl rfl rfl rfl
  | discard => rw [State.discard_eq]; exact sound.congr rfl rfl rfl rfl
  | handOn => rw [State.drainTest_eq, State.handOn_eq]; exact sound.congr rfl rfl rfl rfl
  | flush => rw [State.drainTest_eq, State.flushSelected_eq]; exact sound.congr rfl rfl rfl rfl
  | beginItem => rw [State.beginItem_eq]; exact sound.congr rfl rfl rfl rfl
  | endItem => rw [State.offer, State.ended_eq]; exact sound.congr rfl rfl rfl rfl
  | rechoose | notice => rw [State.rechoose_eq]; exact sound.congr rfl rfl rfl rfl
  | writeReg => rw [State.writeReg_eq]; exact sound.congr rfl rfl rfl rfl
  | stop => rw [State.drainTest_eq]; exact sound.congr rfl rfl rfl rfl
  | _ => exact sound.congr rfl rfl rfl rfl

/-- The path leaves the link. -/
theorem frameSound_pathKept : PathKept FrameSound := by
  intro s t act sound
  cases act with
  | addMissed => rw [State.addMissed_eq]; exact sound.congr rfl rfl rfl rfl
  | pair => rw [State.settleLink_eq]; exact sound.congr rfl rfl rfl rfl
  | _ => exact sound.congr rfl rfl rfl rfl

/-! ### The queues within their places (R4, R77, R109, R110, R111, R117, R144) -/

/-- What shortens the queues, keeps the Event Queue and the Notice Queue within their places and leaves the assemblies keeps
the queues within their places. -/
theorem QueuesFit.mono (fit : QueuesFit s) (window : t.window.length ≤ s.window.length := by exact le_rfl)
    (ott : t.ott.length ≤ s.ott.length := by exact le_rfl)
    (queue : s.queue.length ≤ Config.queuePlaces → t.queue.length ≤ Config.queuePlaces := by exact id)
    (notices : s.notices.length ≤ Config.noticePlaces → t.notices.length ≤ Config.noticePlaces := by exact id)
    (req : t.reqQueue.length ≤ s.reqQueue.length := by exact le_rfl)
    (resp : t.respQueue.length ≤ s.respQueue.length := by exact le_rfl)
    (uq : t.uqAssembly = s.uqAssembly := by rfl) (mp : t.mpAssembly = s.mpAssembly := by rfl) : QueuesFit t := by
  obtain ⟨fitWindow, fitOtt, fitQueue, fitNotices, fitReq, fitResp, fitUq, fitMp⟩ := fit
  refine ⟨window.trans fitWindow, ott.trans fitOtt, queue fitQueue, notices fitNotices, req.trans fitReq,
    resp.trans fitResp, fun assembling => ?_, fun assembling => ?_⟩
  · rw [uq] at assembling
    obtain ⟨reqRoom, ottRoom⟩ := fitUq assembling
    exact ⟨req.trans_lt reqRoom, ott.trans_lt ottRoom⟩
  · rw [mp] at assembling
    exact resp.trans_lt (fitMp assembling)

theorem QueuesFit.drainTest (fit : QueuesFit s) : QueuesFit s.drainTest := by
  rw [State.drainTest_eq]
  exact fit.mono

theorem QueuesFit.moveHorizon (fit : QueuesFit s) : QueuesFit s.moveHorizon := by
  rw [State.moveHorizon_eq]
  refine fit.mono (window := ?_) (ott := ?_) (queue := ?_)
  · rw [State.moveHorizon_window]
    exact List.length_filter_le _ _
  · dsimp only
    exact s.moveHorizon_ott_length.le
  · dsimp only
    exact s.moveHorizon_queue_fits

theorem QueuesFit.flushWindow (fit : QueuesFit s) : QueuesFit s.flushWindow := by
  rw [State.flushWindow, foldl_chargeFlush_eq]
  exact fit.mono (window := Nat.zero_le _) (ott := (List.length_map _).le)

theorem QueuesFit.flushTriggers (fit : QueuesFit s) : QueuesFit s.flushTriggers := by
  rw [State.flushTriggers_eq]
  refine fit.mono (window := ?_)
  dsimp only
  exact (length_of_bareWindow_eq s.flushTriggers_bareWindow).le

theorem QueuesFit.flushEvents (fit : QueuesFit s) : QueuesFit s.flushEvents := by
  rw [State.flushEvents_eq]
  refine fit.mono (queue := fun _ => ?_)
  dsimp only
  exact s.flushEvents_queue_fits

theorem QueuesFit.flushNotices (fit : QueuesFit s) : QueuesFit s.flushNotices := by
  rw [State.flushNotices, State.rechoose_eq]
  refine fit.mono (notices := fun fits => ?_)
  dsimp only
  split
  · rw [List.length_take]
    exact (min_le_right _ _).trans fits
  · exact Nat.zero_le _

theorem QueuesFit.ended (fit : QueuesFit s) (item : Item) : QueuesFit (s.ended item) := by
  rw [State.ended_eq]
  refine fit.mono (queue := fun fits => State.ended_queue_fits fits item) (notices := fun fits => ?_)
  cases item with
  | notice n =>
    show s.notices.tail.length ≤ Config.noticePlaces
    rw [List.length_tail]
    exact (Nat.sub_le _ _).trans fits
  | eventHeader h =>
    exact kept_ite (fun t => t.notices.length ≤ Config.noticePlaces) (fun _ => by rw [State.eventLeaves_eq]; exact fits)
      (fun _ => fits)
  | record r o a =>
    refine kept_ite (fun t => t.notices.length ≤ Config.noticePlaces) (fun _ => ?_) (fun _ => ?_)
    · rw [State.eventLeaves_eq, State.freeRecord_eq]; exact fits
    · rw [State.freeRecord_eq]; exact fits
  | _ => exact fits

/-- Every act off the memory path keeps the queues within their places. -/
theorem queuesFit_actKept : ActKept QueuesFit := by
  intro s t act fit
  cases act with
  | notice n room =>
    rw [State.rechoose_eq]
    exact fit.mono (notices := fun _ => by rw [List.length_append]; exact room)
  | moveHorizon => exact fit.moveHorizon.drainTest
  | discard k =>
    rw [State.discard_eq]
    exact fit.mono (window := (length_of_bareWindow_eq (s.discard_bareWindow k)).le)
  | handOn k =>
    refine QueuesFit.drainTest ?_
    rw [State.handOn_eq]
    exact fit.mono (queue := fun fits => State.handOn_queue_fits fits k)
  | admission a k =>
    rw [State.admitInto_eq]
    exact fit.mono (window := (length_of_bareWindow_eq (s.admitInto_bareWindow a k)).le)
  | flush selection =>
    exact (kept_flushSelected QueuesFit fit (fun _ => QueuesFit.flushWindow) (fun _ => QueuesFit.flushTriggers)
      (fun _ => QueuesFit.flushEvents) (fun _ => QueuesFit.flushNotices) (fun _ fit => fit.mono) selection).drainTest
  | endItem item => exact (QueuesFit.ended (s := { s with framer := .idle }) fit.mono item).mono
  | requestPassed => exact fit.mono (req := by rw [List.length_tail]; exact Nat.sub_le _ _)
  | responsePassed => exact fit.mono (resp := by rw [List.length_tail]; exact Nat.sub_le _ _)
  | mrst =>
    obtain ⟨fitWindow, -, fitQueue, fitNotices, -⟩ := fit
    exact ⟨(List.length_map _).le.trans fitWindow, Nat.zero_le _, fitQueue, fitNotices, Nat.zero_le _, Nat.zero_le _,
      fun assembling => absurd rfl assembling, fun assembling => absurd rfl assembling⟩
  | reset =>
    exact fit.mono (window := Nat.zero_le _) (ott := Nat.zero_le _) (queue := fun _ => Nat.zero_le _)
      (notices := fun _ => Nat.zero_le _)
  | countThrottle => rw [State.countThrottle_eq]; exact fit.mono
  | stop => exact QueuesFit.drainTest fit.mono
  | rechoose => rw [State.rechoose_eq]; exact fit.mono
  | writeReg => rw [State.writeReg_eq]; exact fit.mono
  | beginItem => rw [State.beginItem_eq]; exact fit.mono
  | _ => exact fit.mono

theorem foldl_addMissed_queuesFit (n : Nat) (l : List Slot) (fit : QueuesFit s) :
    QueuesFit (l.foldl (fun t k => t.addMissed n k) s) := by
  rw [foldl_addMissed_eq]
  exact fit.mono

/-- A request taken where both its queues have room: the OTT and then the request forward queue gain one (R112). -/
theorem QueuesFit.takeRequest (fit : QueuesFit s) (reqRoom : s.reqQueue.length < Config.forwardPlaces)
    (ottRoom : s.ott.length < Config.ottItems) (alone : s.uqAssembly = none) (r : Request) :
    QueuesFit (s.takeRequest r) := by
  have opened (link : Link) : QueuesFit (s.openItem r link) := by
    obtain ⟨window, -, queue, notices, req, resp, -, mp⟩ := fit
    refine ⟨window, ?_, queue, notices, req, resp, fun assembling => absurd alone assembling, mp⟩
    rw [State.openItem, List.length_append]
    exact ottRoom
  have recorded : QueuesFit (if s.recState = .run then s.recordRequest r else s.openItem r .none) := by
    refine kept_ite QueuesFit (fun run => ?_) (fun _ => opened .none)
    unfold State.recordRequest
    split
    next room =>
      refine queuesFit_actKept.fireMatch (s := s.createEntry r) ?_ (by exact run) r
      obtain ⟨-, ott, queue, notices, req, resp, uq, mp⟩ := opened (.entry (s.newEntry r).seq (s.newEntry r).place)
      refine ⟨?_, ott, queue, notices, req, resp, uq, mp⟩
      rw [State.createEntry, List.length_append]
      exact room
    next =>
      have dropped : QueuesFit (s.dropRequest r) := foldl_addMissed_queuesFit 1 _ (opened .none).mono
      exact queuesFit_actKept.fireMatch dropped (by rw [State.dropRequest_eq]; exact run) r
  have paths : ∀ u, u = (if s.recState = .run then s.recordRequest r else s.openItem r .none) →
      u.reqQueue = s.reqQueue ∧ u.uqAssembly = s.uqAssembly := by
    rintro u rfl
    split
    · rw [State.recordRequest_eq]; exact ⟨rfl, rfl⟩
    · exact ⟨rfl, rfl⟩
  unfold State.takeRequest
  dsimp only
  generalize (if s.recState = .run then s.recordRequest r else s.openItem r .none) = u at recorded paths ⊢
  obtain ⟨sameReq, sameUq⟩ := paths u rfl
  obtain ⟨window, ott, queue, notices, -, resp, -, mp⟩ := recorded
  refine ⟨window, ott, queue, notices, ?_, resp, fun assembling => absurd (sameUq.trans alone) assembling, mp⟩
  rw [List.length_append, sameReq]
  exact reqRoom

theorem State.room_of_not_held (free : s.held = false) :
    s.reqQueue.length < Config.forwardPlaces ∧ s.ott.length < Config.ottItems := by
  simp only [State.held, State.forwardFull, State.ottFull, Bool.or_eq_false_iff, decide_eq_false_iff_not, not_le] at free
  exact ⟨free.1.1.1.1, free.1.1.1.2⟩

/-- A header is accepted where both queues have room, and what is in assembly keeps its room to its taking (R106, R117). -/
theorem QueuesFit.acceptRequest (fit : QueuesFit s) (transfer : ReqTransfer) : QueuesFit (s.acceptRequest transfer) := by
  unfold State.acceptRequest
  split
  next alone =>
    refine kept_ite QueuesFit (fun _ => fit) (fun free => ?_)
    obtain ⟨reqRoom, ottRoom⟩ := State.room_of_not_held (by simpa using free)
    split
    · exact fit.takeRequest reqRoom ottRoom alone _
    · obtain ⟨window, ott, queue, notices, req, resp, -, mp⟩ := fit
      exact ⟨window, ott, queue, notices, req, resp, fun _ => ⟨reqRoom, ottRoom⟩, mp⟩
  next r b assembling =>
    obtain ⟨window, ott, queue, notices, req, resp, uq, mp⟩ := fit
    obtain ⟨reqRoom, ottRoom⟩ := uq (by rw [assembling]; exact Option.some_ne_none r)
    refine kept_ite QueuesFit (fun _ => ⟨window, ott, queue, notices, req, resp, uq, mp⟩) (fun _ => ?_)
    refine kept_ite QueuesFit (fun _ => ?_)
      (fun _ => ⟨window, ott, queue, notices, req, resp, fun _ => ⟨reqRoom, ottRoom⟩, mp⟩)
    exact QueuesFit.takeRequest (s := { s with uqAssembly := none })
      ⟨window, ott, queue, notices, req, resp, fun some => absurd rfl some, mp⟩ reqRoom ottRoom rfl _
  next => exact fit
  next => exact fit

theorem QueuesFit.pair (fit : QueuesFit s) (ts : List RespTransfer) : QueuesFit (s.pair ts) := by
  unfold State.pair
  split
  next item _ =>
    rw [State.settleLink_eq]
    refine fit.mono (ott := List.length_eraseP_le) (window := ?_)
    unfold State.settleLink
    split
    · exact (List.length_map _).le
    · exact le_rfl
    · exact le_rfl
  next => exact queuesFit_actKept.notify fit.mono _

/-- A response's first transfer is accepted where its queue has room, and what is in assembly keeps that room (R107). -/
theorem QueuesFit.acceptResponse (fit : QueuesFit s) (transfer : RespTransfer) :
    QueuesFit (s.acceptResponse transfer) := by
  unfold State.acceptResponse
  refine kept_ite QueuesFit (fun _ => fit) (fun accepted => ?_)
  have room : s.respQueue.length < Config.forwardPlaces := by
    obtain ⟨-, -, -, -, -, -, -, mp⟩ := fit
    simp only [State.responseRoom, Bool.or_eq_true, Bool.not_eq_true', not_or, Bool.not_eq_false, List.isEmpty_eq_false_iff,
      decide_eq_true_eq] at accepted
    exact accepted.2.elim mp id
  obtain ⟨window, ott, queue, notices, req, resp, uq, -⟩ := fit
  refine kept_ite QueuesFit (fun _ => ?_) (fun _ => ⟨window, ott, queue, notices, req, resp, uq, fun _ => room⟩)
  have empty : QueuesFit { s with mpAssembly := [] } :=
    ⟨window, ott, queue, notices, req, resp, uq, fun some => absurd rfl some⟩
  have fired := queuesFit_actKept.fireFault (empty.pair (s.mpAssembly ++ [transfer])) (s.mpAssembly ++ [transfer])
  have paths : ∀ u, u = (({ s with mpAssembly := [] } : State).pair (s.mpAssembly ++ [transfer])).fireFault
      (s.mpAssembly ++ [transfer]) → u.respQueue = s.respQueue ∧ u.mpAssembly = [] := by
    rintro u rfl
    rw [State.fireFault_eq, State.pair_eq]
    exact ⟨rfl, rfl⟩
  unfold State.takeResponse
  dsimp only
  generalize (({ s with mpAssembly := [] } : State).pair (s.mpAssembly ++ [transfer])).fireFault
    (s.mpAssembly ++ [transfer]) = u at fired paths ⊢
  obtain ⟨sameResp, sameMp⟩ := paths u rfl
  obtain ⟨window, ott, queue, notices, req, -, uq, -⟩ := fired
  refine ⟨window, ott, queue, notices, req, ?_, uq, fun some => absurd sameMp some⟩
  rw [List.length_append, sameResp]
  exact room

end

/-- Settles O52: each of the four invariants is kept by every act a step is made of, the queues by each transfer as a whole,
since a transfer is accepted only where its queues have room. -/
theorem stepKeepsSettingsFlagsAndQueuesLegal : Obligations.StepKeepsSettingsFlagsAndQueuesLegal := by
  unfold Obligations.StepKeepsSettingsFlagsAndQueuesLegal
  intro s t ran
  exact ⟨step_keeps settingsLegal_actKept settingsLegal_pathKept ran,
    step_keeps flagsLegal_actKept flagsLegal_pathKept ran,
    queuesFit_actKept.step (fun _ transfer fit => fit.acceptRequest transfer)
      (fun _ transfer fit => fit.acceptResponse transfer) ran,
    step_keeps frameSound_actKept frameSound_pathKept ran⟩

end Sys2Proof.Machine
end

section
/-! The Event Store: what each operation does to the number of records held, that it stays within the record slots, and that a
suspension stands only over a store that holds a record (R67, R119, R182, R183). -/

-- One theorem after another: side by side they ask for more threads than the check's memory limit allows.
set_option Elab.async false

namespace Sys2Proof.Machine

open Sys2Proof

/-! ### The records held -/

/-- The records held, by the events under build and by those in the Event Queue (R67). -/
def State.stored (s : State) : Nat := s.buildRecords + s.queueRecords

section

variable {s t : State}

theorem State.freeSlots_eq_sub (s : State) : s.freeSlots = Config.recordSlots - s.stored := rfl

/-- Every record slot is free exactly when no record is held. -/
theorem State.freeSlots_eq_all : s.freeSlots = Config.recordSlots ↔ s.stored = 0 := by
  rw [State.freeSlots_eq_sub]
  simp only [Config.recordSlots]
  omega

/-- The records held depend on the slots and the Event Queue alone. -/
theorem State.stored_congr (slots : t.slots = s.slots := by rfl) (queue : t.queue = s.queue := by rfl) :
    t.stored = s.stored := by
  unfold State.stored State.queueRecords
  rw [State.buildRecords_congr slots, queue]

/-- A slot's content exchanged for another's. -/
theorem State.stored_setSlot (s : State) (k : Slot) (o : Option Live) :
    (s.setSlot k o).stored + slotRecords (s.slot k) = s.stored + slotRecords o := by
  have build := s.buildRecords_setSlot k o
  have queue : (s.setSlot k o).queueRecords = s.queueRecords := rfl
  unfold State.stored
  omega

/-- A slot whose content keeps its number of records. -/
theorem State.stored_setSlot_of_eq {k : Slot} {o : Option Live} (same : slotRecords o = slotRecords (s.slot k)) :
    (s.setSlot k o).stored = s.stored := by
  have := s.stored_setSlot k o
  omega

theorem State.stored_setSlot_none_le (s : State) (k : Slot) : (s.setSlot k none).stored ≤ s.stored := by
  have := s.stored_setSlot k none
  simp only [slotRecords] at this
  omega

/-- A hand-over moves the records from the slot's event to the queue's (R41). -/
theorem State.handOver_stored (s : State) (k : Slot) : (s.handOver k).stored = s.stored := by
  unfold State.handOver
  split
  next => rfl
  next l live =>
    rw [State.stored_congr (State.rechoose_slots _) (State.rechoose_queue _)]
    have moved := State.stored_setSlot { s with queue := s.queue ++ [l.completed] } k none
    have slot : slotRecords (State.slot { s with queue := s.queue ++ [l.completed] } k) = l.event.records.length := by
      show slotRecords (s.slot k) = _
      rw [live]
      rfl
    have joined : State.stored { s with queue := s.queue ++ [l.completed] } = s.stored + l.event.records.length := by
      have build : State.buildRecords { s with queue := s.queue ++ [l.completed] } = s.buildRecords :=
        State.buildRecords_congr rfl
      unfold State.stored State.queueRecords
      rw [build, List.map_append, List.sum_append]
      simp [Live.completed, Nat.add_assoc]
    rw [slot, joined] at moved
    simp only [slotRecords] at moved
    omega

theorem State.park_stored (s : State) (k : Slot) : (s.park k).stored = s.stored := by
  unfold State.park
  split
  next => rfl
  next l live =>
    refine (State.stored_setSlot_of_eq ?_).trans State.stored_congr
    show _ = slotRecords (s.slot k)
    rw [live]
    rfl

theorem State.handOn_stored (s : State) (k : Slot) : (s.handOn k).stored = s.stored :=
  kept_ite (fun t => t.stored = s.stored) (fun _ => s.handOver_stored k) (fun _ => s.park_stored k)

theorem State.endCollection_stored (s : State) (k : Slot) : (s.endCollection k).stored = s.stored := by
  unfold State.endCollection
  split
  next => rfl
  next l live =>
    refine kept_ite (fun t => t.stored = s.stored) (fun _ => ?_) (fun _ => ?_)
    · exact State.stored_setSlot_of_eq (by rw [live]; rfl)
    · rw [State.handOn_stored]
      exact State.stored_setSlot_of_eq (by rw [live]; rfl)

theorem State.report_stored (s : State) (h : Tick) : (s.report h).stored = s.stored := by
  refine kept_foldl (fun t => t.stored = s.stored) (op := State.reportSlot h) (fun {t} k same => ?_) allSlots rfl
  unfold State.reportSlot
  split
  · exact same
  · exact kept_ite (fun t => t.stored = s.stored) (fun _ => (t.endCollection_stored k).trans same) (fun _ => same)

theorem serveParking_stored (l : List Slot) (s : State) : (serveParking l s).stored = s.stored := by
  induction l generalizing s with
  | nil => rfl
  | cons k rest ih =>
    refine kept_ite (fun t => t.stored = s.stored) (fun _ => ?_) (fun _ => rfl)
    rw [ih, State.handOver_stored]
    exact State.stored_congr

theorem State.addMissed_stored (s : State) (n : Nat) (k : Slot) : (s.addMissed n k).stored = s.stored := by
  unfold State.addMissed
  split
  next => rfl
  next l live => exact State.stored_setSlot_of_eq (by rw [live]; rfl)

theorem State.flushWindow_stored (s : State) : s.flushWindow.stored = s.stored := by
  refine kept_foldl (fun t => t.stored = s.stored) (op := chargeFlush s.markedCount) (fun {t} k same => ?_) allSlots
    State.stored_congr
  unfold chargeFlush
  split
  · exact same
  · exact kept_ite (fun t => t.stored = s.stored) (fun _ => (t.addMissed_stored _ k).trans same) (fun _ => same)

/-- A new entry's event holds no record (R68). -/
theorem State.admitInto_stored (a : Arrival) {k : Slot} (free : s.slot k = none) :
    (s.admitInto a k).stored = s.stored := by
  let tag := if takesDeviceTag a.source then s.deviceTagFor else a.tag
  have admitted : (s.setSlot k (some (a.entry tag))).stored = s.stored :=
    State.stored_setSlot_of_eq (by rw [free]; rfl)
  exact (State.stored_congr (s := s.setSlot k (some (a.entry tag)))).trans admitted

/-- Removing a slot's marks frees no record. -/
theorem State.unmarkIf_stored (s : State) (k : Slot) (p : Prop) [Decidable p] :
    (if p then s.unmarkAll k else s).stored = s.stored :=
  kept_ite (fun t => t.stored = s.stored) (fun _ => State.stored_congr) (fun _ => rfl)

theorem foldl_flushSlot_stored_le (l : List Slot) (s : State) : (l.foldl State.flushSlot s).stored ≤ s.stored := by
  refine kept_foldl (fun t => t.stored ≤ s.stored) (op := State.flushSlot) (fun {t} k le => ?_) l le_rfl
  unfold State.flushSlot
  split
  · exact le
  · exact (State.stored_setSlot_none_le _ k).trans ((t.unmarkIf_stored k _).le.trans le)

/-! ### The Event Queue's records -/

theorem queueRecords_sublist {q : List Event} (sub : q.Sublist s.queue) :
    State.stored { s with queue := q } ≤ s.stored := by
  have build : State.buildRecords { s with queue := q } = s.buildRecords := State.buildRecords_congr rfl
  have queue : State.queueRecords { s with queue := q } ≤ s.queueRecords :=
    List.Sublist.sum_le_sum (sub.map _) (fun _ _ => Nat.zero_le _)
  unfold State.stored
  omega

theorem State.freeRecord_stored_le (s : State) : s.freeRecord.stored ≤ s.stored := by
  rw [State.stored_congr (s := { s with queue := dropHeadRecord s.queue }) (by simp [State.freeRecord])
    (by simp [State.freeRecord])]
  have build : State.buildRecords { s with queue := dropHeadRecord s.queue } = s.buildRecords :=
    State.buildRecords_congr rfl
  have queue : State.queueRecords { s with queue := dropHeadRecord s.queue } ≤ s.queueRecords := by
    unfold State.queueRecords
    cases s.queue with
    | nil => exact le_rfl
    | cons e rest => simp [dropHeadRecord]
  unfold State.stored
  omega

/-- An event that leaves with its last record sent takes no record with it (R81). -/
theorem State.eventLeaves_stored (sent : s.headSent = true) : s.eventLeaves.stored = s.stored := by
  unfold State.eventLeaves State.placesFreed
  rw [State.stored_congr (State.drainTest_slots _) (State.drainTest_queue _), serveParking_stored]
  have build (t : State) (slots : t.slots = s.slots) (queue : t.queue = s.queue.tail) : t.stored = s.stored := by
    unfold State.stored State.queueRecords
    rw [State.buildRecords_congr slots, queue]
    cases events : s.queue with
    | nil => rfl
    | cons e rest =>
      have empty : e.records = [] := by simpa [State.headSent, events] using sent
      simp [empty]
  exact build _ rfl rfl

theorem State.flushEvents_stored_le (s : State) : s.flushEvents.stored ≤ s.stored := by
  unfold State.flushEvents State.placesFreed
  rw [State.stored_congr (State.rechoose_slots _) (State.rechoose_queue _), serveParking_stored,
    State.stored_congr (State.storeChanged_slots _) (State.storeChanged_queue _)]
  refine queueRecords_sublist ?_
  split
  · exact List.take_sublist 1 _
  · exact List.nil_sublist _

theorem State.discard_stored_le (s : State) (k : Slot) : (s.discard k).stored ≤ s.stored := by
  unfold State.discard
  split
  · exact le_rfl
  · rw [State.stored_congr (State.drainTest_slots _) (State.drainTest_queue _),
      State.stored_congr (State.storeChanged_slots _) (State.storeChanged_queue _)]
    exact (State.stored_setSlot_none_le _ k).trans (s.unmarkIf_stored k _).le

/-! ### Offers -/

/-- An offer adds no record, or one where a record slot is free (R69, R70). -/
theorem State.offerRecord_stored (s : State) (r : Record) (k : Slot) :
    (s.offerRecord r k).stored = s.stored ∨ (1 ≤ s.freeSlots ∧ (s.offerRecord r k).stored = s.stored + 1) := by
  cases live : s.slot k with
  | none => exact .inl (by unfold State.offerRecord; rw [live])
  | some l =>
    have slots : (s.offerRecord r k).slots =
        (s.setSlot k (some { l with event := l.event.after [(r, s.disposition k)] })).slots :=
      State.slots_ext (fun j => by rw [State.slot_offerRecord s r k live, State.slot_setSlot])
    have exchanged := s.stored_setSlot k (some { l with event := l.event.after [(r, s.disposition k)] })
    rw [← State.stored_congr slots (by rw [State.offerRecord_eq]; rfl), live] at exchanged
    simp only [slotRecords] at exchanged
    cases comes : s.disposition k with
    | stored =>
      have free : 1 ≤ s.freeSlots := by
        unfold State.disposition at comes
        split at comes
        · exact Disposition.noConfusion comes
        · split at comes
          · exact Disposition.noConfusion comes
          · omega
      rw [comes, EventBuild.after_stored] at exchanged
      simp only [List.length_append, List.length_singleton] at exchanged
      exact .inr ⟨free, by omega⟩
    | limit =>
      rw [comes, EventBuild.after_limit] at exchanged
      exact .inl (by dsimp only at exchanged; omega)
    | full =>
      rw [comes, EventBuild.after_full] at exchanged
      exact .inl (by dsimp only at exchanged; omega)

/-- What every offer keeps of the number of records held, the window's action keeps. -/
theorem State.moveHorizon_stored_induction {kept : Nat → Prop} (start : kept s.stored)
    (offer : ∀ (t : State), kept t.stored → 1 ≤ t.freeSlots → kept (t.stored + 1)) : kept s.moveHorizon.stored := by
  have offered (t : State) (r : Record) (k : Slot) (before : kept t.stored) : kept (t.offerRecord r k).stored := by
    obtain same | ⟨free, more⟩ := t.offerRecord_stored r k
    · rw [same]; exact before
    · rw [more]; exact offer t before free
  have left (t : State) (e : Entry) (before : kept t.stored) : kept (t.expireEntry e).stored := by
    have all := kept_foldl (fun t => kept t.stored) (op := fun t k => t.offerRecord e.copy k)
      (fun {t} k before => offered t e.copy k before) (allSlots.filter (fun k => e.marks.contains k)) before
    unfold State.expireEntry
    refine kept_ite (fun t => kept t.stored) (fun _ => ?_) (fun _ => all)
    generalize (allSlots.filter (fun k => e.marks.contains k)).foldl (fun t k => t.offerRecord e.copy k) t = u at all ⊢
    rw [State.stored_congr (t := u.detach e) (s := u)]
    exact all
  unfold State.moveHorizon
  rw [State.report_stored]
  unfold State.expire
  refine kept_foldl (fun t => kept t.stored) (op := State.expireEntry) (fun {t} e before => left t e before) _ ?_
  rw [State.stored_congr (s := s)]
  exact start

/-! ### The records within the record slots (R67) -/

theorem StoreFits.of_le (fits : StoreFits s) (fewer : t.stored ≤ s.stored := by exact (State.stored_congr).le) :
    StoreFits t :=
  Nat.le_trans fewer fits

theorem StoreFits.drainTest (fits : StoreFits s) : StoreFits s.drainTest :=
  fits.of_le (State.stored_congr (State.drainTest_slots s) (State.drainTest_queue s)).le

theorem StoreFits.moveHorizon (fits : StoreFits s) : StoreFits s.moveHorizon := by
  refine State.moveHorizon_stored_induction (kept := fun n => n ≤ Config.recordSlots) fits (fun t _ free => ?_)
  rw [State.freeSlots_eq_sub] at free
  omega

theorem StoreFits.flushTriggers (fits : StoreFits s) : StoreFits s.flushTriggers := by
  have fewer := foldl_flushSlot_stored_le allSlots s
  unfold State.flushTriggers
  refine fits.of_le ?_
  rw [State.stored_congr (State.storeChanged_slots _) (State.storeChanged_queue _)]
  generalize allSlots.foldl State.flushSlot s = u at fewer ⊢
  exact (State.stored_congr (s := u)).le.trans fewer

theorem StoreFits.flushNotices (fits : StoreFits s) : StoreFits s.flushNotices := by
  rw [State.flushNotices_eq]
  exact fits.of_le

/-- The end of an item takes records away or none (R80, R81). -/
theorem State.ended_stored_le (s : State) (item : Item) : (s.ended item).stored ≤ s.stored := by
  have leaves (u : State) (le : u.stored ≤ s.stored) : (if u.headSent then u.eventLeaves else u).stored ≤ s.stored :=
    kept_ite (fun t => t.stored ≤ s.stored) (fun sent => (u.eventLeaves_stored sent).le.trans le) (fun _ => le)
  cases item with
  | eventHeader h => exact leaves s le_rfl
  | record r o a => exact leaves s.freeRecord s.freeRecord_stored_le
  | _ => exact (State.stored_congr).le

theorem storeFits_reset : StoreFits State.reset := by
  unfold StoreFits
  decide

theorem storeFits_actKept : ActKept StoreFits := by
  intro s t act fits
  cases act with
  | moveHorizon => exact fits.moveHorizon.drainTest
  | discard k => exact fits.of_le (s.discard_stored_le k)
  | confirm k l live => exact fits.of_le (State.stored_setSlot_of_eq (by rw [live]; rfl)).le
  | handOn k => exact (fits.of_le (s.handOn_stored k).le).drainTest
  | admission a k legal free => exact fits.of_le (State.admitInto_stored a free).le
  | flush selection =>
    exact (kept_flushSelected StoreFits fits (fun t fits => fits.of_le t.flushWindow_stored.le)
      (fun _ => StoreFits.flushTriggers) (fun t fits => fits.of_le t.flushEvents_stored_le)
      (fun _ => StoreFits.flushNotices) (fun _ fits => fits.of_le) selection).drainTest
  | endItem item =>
    exact (StoreFits.of_le (s := { s with framer := .idle }) fits.of_le (State.ended_stored_le _ item)).of_le
  | reset => exact storeFits_reset.of_le
  | stop => exact StoreFits.drainTest fits.of_le
  | rechoose | notice => exact fits.of_le (State.stored_congr (State.rechoose_slots _) (State.rechoose_queue _)).le
  | countThrottle => rw [State.countThrottle_eq]; exact fits.of_le
  | writeReg => rw [State.writeReg_eq]; exact fits.of_le
  | beginItem => rw [State.beginItem_eq]; exact fits.of_le
  | _ => exact fits.of_le

theorem storeFits_pathKept : PathKept StoreFits := by
  intro s t act fits
  cases act with
  | addMissed n k => exact fits.of_le (s.addMissed_stored n k).le
  | pair => rw [State.settleLink_eq]; exact fits.of_le
  | _ => exact fits.of_le

/-! ### The suspension (R182, R183) -/

theorem suspensionSound_iff : SuspensionSound s ↔ (s.suspended = true → s.stored ≠ 0 ∧ s.throttleCount = 0) := by
  unfold SuspensionSound
  rw [ne_eq, State.freeSlots_eq_all]

theorem SuspensionSound.congr (sound : SuspensionSound s) (stored : t.stored = s.stored := by exact State.stored_congr)
    (suspended : t.suspended = s.suspended := by rfl) (count : t.throttleCount = s.throttleCount := by rfl) :
    SuspensionSound t := by
  rw [suspensionSound_iff, stored, suspended, count]
  exact suspensionSound_iff.1 sound

theorem suspensionSound_of_not_suspended (ended : s.suspended = false := by rfl) : SuspensionSound s :=
  fun suspended => Bool.noConfusion (ended.symm.trans suspended)

/-- An emptied store ends a suspension, so whatever left the store, none stands over an empty one (R183). -/
theorem suspensionSound_storeChanged (count : s.suspended = true → s.throttleCount = 0) :
    SuspensionSound s.storeChanged := by
  unfold State.storeChanged
  split
  next => exact suspensionSound_of_not_suspended
  next holds => exact fun suspended => ⟨holds, count suspended⟩

theorem SuspensionSound.count (sound : SuspensionSound s) (suspended : s.suspended = true) : s.throttleCount = 0 :=
  (sound suspended).2

theorem SuspensionSound.drainTest (sound : SuspensionSound s) : SuspensionSound s.drainTest :=
  sound.congr (State.stored_congr (State.drainTest_slots s) (State.drainTest_queue s)) (by simp) (by simp)

/-- THROTTLE applies only over a store that holds a record: THROTTLE_MARK is at most 1023 (R83, R118). -/
theorem SettingsLegal.stored_of_throttleHold (legal : SettingsLegal s) (hold : s.throttleHold = true) : s.stored ≠ 0 := by
  have mark : s.regs.throttleMark.toNat ≤ 1023 := of_decide_eq_true (legal .throttleMark rfl)
  simp only [State.throttleHold, Bool.and_eq_true, decide_eq_true_eq] at hold
  obtain ⟨⟨-, below⟩, -⟩ := hold
  rw [State.freeSlots_eq_sub] at below
  simp only [Config.recordSlots] at below
  omega

theorem State.not_suspended_of_throttleHold (hold : s.throttleHold = true) : s.suspended = false := by
  simp only [State.throttleHold, Bool.and_eq_true, Bool.not_eq_true'] at hold
  exact hold.2

theorem SuspensionSound.countThrottle (sound : SuspensionSound s) (legal : SettingsLegal s) :
    SuspensionSound s.countThrottle := by
  unfold State.countThrottle
  refine kept_ite SuspensionSound (fun hold => kept_ite SuspensionSound (fun _ => ?_) (fun _ => ?_)) (fun _ => ?_)
  · refine suspensionSound_iff.2 (fun _ => ⟨?_, rfl⟩)
    rw [State.stored_congr (s := s)]
    exact legal.stored_of_throttleHold hold
  · exact suspensionSound_of_not_suspended (State.not_suspended_of_throttleHold hold)
  · refine suspensionSound_iff.2 (fun suspended => ⟨?_, rfl⟩)
    rw [State.stored_congr (s := s)]
    exact (suspensionSound_iff.1 sound suspended).1

theorem SuspensionSound.moveHorizon (sound : SuspensionSound s) : SuspensionSound s.moveHorizon := by
  have suspended : s.moveHorizon.suspended = s.suspended := by rw [State.moveHorizon_eq]
  have count : s.moveHorizon.throttleCount = s.throttleCount := by rw [State.moveHorizon_eq]
  refine suspensionSound_iff.2 (fun stands => ?_)
  rw [suspended] at stands
  obtain ⟨holds, zero⟩ := suspensionSound_iff.1 sound stands
  rw [count]
  exact ⟨State.moveHorizon_stored_induction (kept := fun n => n ≠ 0) holds (fun _ _ _ => Nat.succ_ne_zero _), zero⟩

theorem SuspensionSound.discard (sound : SuspensionSound s) (k : Slot) : SuspensionSound (s.discard k) := by
  unfold State.discard
  split
  · exact sound
  · refine SuspensionSound.drainTest (suspensionSound_storeChanged (fun suspended => ?_))
    rw [State.setSlot_throttleCount]
    rw [State.setSlot_suspended] at suspended
    refine kept_ite (fun t => t.suspended = true → t.throttleCount = 0) (fun _ => ?_) (fun _ => ?_) suspended
    · exact sound.count
    · exact sound.count

theorem SuspensionSound.flushTriggers (sound : SuspensionSound s) : SuspensionSound s.flushTriggers := by
  unfold State.flushTriggers
  refine suspensionSound_storeChanged ?_
  rw [foldl_flushSlot_eq]
  exact sound.count

/-- Serving the parking list moves records and frees none. -/
theorem SuspensionSound.placesFreed (sound : SuspensionSound s) : SuspensionSound s.placesFreed :=
  sound.congr (serveParking_stored _ s) (by rw [State.placesFreed_eq]) (by rw [State.placesFreed_eq])

theorem SuspensionSound.rechoose (sound : SuspensionSound s) : SuspensionSound s.rechoose := by
  rw [State.rechoose_eq]
  exact sound.congr

theorem SuspensionSound.flushEvents (sound : SuspensionSound s) : SuspensionSound s.flushEvents := by
  unfold State.flushEvents
  have flushed := suspensionSound_storeChanged (s := { s with
    queue := if s.inTransmission then s.queue.take 1 else [] }) sound.count
  exact flushed.placesFreed.rechoose

theorem SuspensionSound.flushWindow (sound : SuspensionSound s) : SuspensionSound s.flushWindow :=
  sound.congr s.flushWindow_stored (by rw [State.flushWindow_eq]) (by rw [State.flushWindow_eq])

theorem SuspensionSound.flushNotices (sound : SuspensionSound s) : SuspensionSound s.flushNotices := by
  rw [State.flushNotices_eq]
  exact sound.congr

theorem SuspensionSound.eventLeaves (sound : SuspensionSound s) (sent : s.headSent = true) :
    SuspensionSound s.eventLeaves :=
  sound.congr (State.eventLeaves_stored sent) (by rw [State.eventLeaves_eq]) (by rw [State.eventLeaves_eq])

theorem SuspensionSound.ended (sound : SuspensionSound s) (item : Item) : SuspensionSound (s.ended item) := by
  cases item with
  | eventHeader h => exact kept_ite SuspensionSound (fun sent => sound.eventLeaves sent) (fun _ => sound)
  | record r o a =>
    have freed : SuspensionSound s.freeRecord := suspensionSound_storeChanged sound.count
    exact kept_ite SuspensionSound (fun sent => freed.eventLeaves sent) (fun _ => freed)
  | _ => exact sound.congr

theorem suspensionSound_actKept : ActKept (fun s => SettingsLegal s ∧ SuspensionSound s) := by
  rintro s t act ⟨legal, sound⟩
  refine ⟨settingsLegal_actKept act legal, ?_⟩
  cases act with
  | countThrottle => exact sound.countThrottle legal
  | moveHorizon => exact sound.moveHorizon.drainTest
  | discard k => exact sound.discard k
  | confirm k l live => exact sound.congr (State.stored_setSlot_of_eq (by rw [live]; rfl))
  | handOn k =>
    exact (sound.congr (s.handOn_stored k) (by rw [State.handOn_eq]) (by rw [State.handOn_eq])).drainTest
  | admission a k legal free => exact sound.congr (State.admitInto_stored a free)
  | start => exact suspensionSound_of_not_suspended
  | reset => exact suspensionSound_of_not_suspended
  | flush selection =>
    exact (kept_flushSelected SuspensionSound sound (fun _ => SuspensionSound.flushWindow)
      (fun _ => SuspensionSound.flushTriggers) (fun _ => SuspensionSound.flushEvents)
      (fun _ => SuspensionSound.flushNotices) (fun _ sound => sound.congr) selection).drainTest
  | endItem item => exact (SuspensionSound.ended (s := { s with framer := .idle }) sound.congr item).congr
  | stop => exact SuspensionSound.drainTest sound.congr
  | rechoose => exact sound.rechoose
  | notice => exact SuspensionSound.rechoose sound.congr
  | writeReg => rw [State.writeReg_eq]; exact sound.congr
  | beginItem => rw [State.beginItem_eq]; exact sound.congr
  | _ => exact sound.congr

theorem suspensionSound_pathKept : PathKept (fun s => SettingsLegal s ∧ SuspensionSound s) := by
  rintro s t act ⟨legal, sound⟩
  refine ⟨settingsLegal_pathKept act legal, ?_⟩
  cases act with
  | addMissed n k => exact sound.congr (s.addMissed_stored n k) (by rw [State.addMissed_eq]) (by rw [State.addMissed_eq])
  | pair => rw [State.settleLink_eq]; exact sound.congr
  | _ => exact sound.congr

end

/-- Settles O53: no act but an offer into a free record slot adds a record; a suspension begins over a store that holds one,
and every act that can leave the store empty tests it. -/
theorem stepKeepsTheStoreSound : Obligations.StepKeepsTheStoreSound := by
  unfold Obligations.StepKeepsTheStoreSound
  intro s t ran fits
  exact ⟨step_keeps storeFits_actKept storeFits_pathKept ran fits, fun legal sound =>
    (step_keeps suspensionSound_actKept suspensionSound_pathKept ran ⟨legal, sound⟩).2⟩

end Sys2Proof.Machine
end

section
/-! The Trigger Table: what of a live entry an offer, a missed count or a CONFIRM leaves, and what of it every act but an
admission leaves (R26, R37). -/

-- One theorem after another: side by side they ask for more threads than the check's memory limit allows.
set_option Elab.async false

namespace Sys2Proof.Machine

open Sys2Proof

/-- Removing a slot's marks leaves the table. -/
theorem State.slot_unmarkIf (s : State) (k : Slot) (p : Prop) [Decidable p] (j : Slot) :
    (if p then s.unmarkAll k else s).slot j = s.slot j :=
  kept_ite (fun t => t.slot j = s.slot j) (fun _ => rfl) (fun _ => rfl)

/-- The slot that an admission takes (R37). -/
theorem State.slot_admitInto_self (s : State) (a : Arrival) (k : Slot) : (s.admitInto a k).slot k =
    some (a.entry (if takesDeviceTag a.source then s.deviceTagFor else a.tag)) :=
  s.slot_setSlot_self k _

theorem State.slot_admitInto_ne (s : State) (a : Arrival) {j k : Slot} (other : j ≠ k) :
    (s.admitInto a k).slot j = s.slot j :=
  s.slot_setSlot_ne _ other

/-- An expiry leaves every slot live or FREE as it was (R16). -/
theorem State.isSome_slot_expire (s : State) (h : Tick) (k : Slot) : ((s.expire h).slot k).isSome = (s.slot k).isSome := by
  obtain ⟨o, expired⟩ := s.expire_offers h
  rw [expired]
  exact isSome_slot_foldl_offers _ s k

/-- After reset every slot is FREE (R25). -/
theorem State.slot_reset : ∀ k, State.reset.slot k = none := by decide

/-! ### A live entry but for its event, its confirmation and its close tick -/

/-- What of a live entry stays from its admission, and its state. -/
def Live.shape (l : Live) : Live := { l with event := EventBuild.opened, confirmed := false, closeTick := none }

/-- The shape of a slot's entry; none when the slot is FREE. -/
def State.shape (s : State) (k : Slot) : Option Live := (s.slot k).map Live.shape

section

variable {s t : State}

theorem State.shape_of_live {k : Slot} {l : Live} (live : s.slot k = some l) : s.shape k = some l.shape := by
  rw [State.shape, live]
  rfl

/-- A slot of the same shape holds an entry of the same shape. -/
theorem State.live_of_shape_eq {k : Slot} (same : t.shape k = s.shape k) {l : Live} (live : t.slot k = some l) :
    ∃ m, s.slot k = some m ∧ m.shape = l.shape := by
  rw [State.shape_of_live live] at same
  obtain ⟨m, held, eq⟩ := Option.map_eq_some_iff.1 same.symm
  exact ⟨m, held, eq⟩

theorem Live.state_of_shape_eq {l m : Live} (same : m.shape = l.shape) : m.state = l.state := congrArg (·.state) same
theorem Live.tag_of_shape_eq {l m : Live} (same : m.shape = l.shape) : m.tag = l.tag := congrArg (·.tag) same
theorem Live.source_of_shape_eq {l m : Live} (same : m.shape = l.shape) : m.source = l.source := congrArg (·.source) same
theorem Live.first_of_shape_eq {l m : Live} (same : m.shape = l.shape) : m.first = l.first := congrArg (·.first) same
theorem Live.last_of_shape_eq {l m : Live} (same : m.shape = l.shape) : m.last = l.last := congrArg (·.last) same

theorem State.shape_congr (slots : t.slots = s.slots) (k : Slot) : t.shape k = s.shape k := by
  rw [State.shape, State.slot_congr slots]
  rfl

/-- A slot rewritten with an entry of its shape. -/
theorem State.shape_setSlot_of_eq {k : Slot} {l m : Live} (live : s.slot k = some l) (same : m.shape = l.shape) (j : Slot) :
    (s.setSlot k (some m)).shape j = s.shape j := by
  rw [State.shape, State.slot_setSlot]
  split
  next here =>
    rw [here, State.shape_of_live live, Option.map_some, same]
  next => rfl

theorem State.shape_addMissed (s : State) (n : Nat) (k j : Slot) : (s.addMissed n k).shape j = s.shape j := by
  unfold State.addMissed
  split
  next => rfl
  next l live =>
    exact State.shape_setSlot_of_eq (m := { l with event := { l.event with missed := satAdd l.event.missed n } }) live rfl j

theorem State.shape_flushWindow (s : State) (j : Slot) : s.flushWindow.shape j = s.shape j := by
  refine kept_foldl (fun t => t.shape j = s.shape j) (op := chargeFlush s.markedCount) (fun {t} k same => ?_) allSlots rfl
  unfold chargeFlush
  split
  · exact same
  · exact kept_ite (fun t => t.shape j = s.shape j) (fun _ => (t.shape_addMissed _ k j).trans same) (fun _ => same)

theorem State.shape_expire (s : State) (h : Tick) (j : Slot) : (s.expire h).shape j = s.shape j := by
  cases held : s.slot j with
  | none =>
    have free : (s.expire h).slot j = none := by
      rw [← Option.isNone_iff_eq_none, ← Option.isSome_eq_false_iff, State.isSome_slot_expire, held]
      rfl
    rw [State.shape, State.shape, held, free]
  | some l =>
    rw [State.shape_of_live held, State.shape_of_live (s.slot_expire h held)]
    rfl

/-! ### What an entry has from its admission -/

/-- An entry as it may stand later in its slot: tag, source and range are its own from its admission on, and once it is no
more COLLECTING it never is again. -/
structure Live.Keeps (l m : Live) : Prop where
  tag : l.tag = m.tag
  source : l.source = m.source
  first : l.first = m.first
  last : l.last = m.last
  collecting : l.state = .collecting → m.state = .collecting

theorem Live.Keeps.refl (l : Live) : l.Keeps l := ⟨rfl, rfl, rfl, rfl, id⟩

theorem Live.Keeps.trans {l m n : Live} (late : l.Keeps m) (early : m.Keeps n) : l.Keeps n where
  tag := late.tag.trans early.tag
  source := late.source.trans early.source
  first := late.first.trans early.first
  last := late.last.trans early.last
  collecting c := early.collecting (late.collecting c)

theorem Live.Keeps.of_shape_eq {l m : Live} (same : m.shape = l.shape) : l.Keeps m where
  tag := (Live.tag_of_shape_eq same).symm
  source := (Live.source_of_shape_eq same).symm
  first := (Live.first_of_shape_eq same).symm
  last := (Live.last_of_shape_eq same).symm
  collecting c := (Live.state_of_shape_eq same).trans c

/-- Every live entry of the later state stood in its slot in the earlier one. -/
def Inherits (s t : State) : Prop := ∀ k l, t.slot k = some l → ∃ m, s.slot k = some m ∧ l.Keeps m

theorem Inherits.refl (s : State) : Inherits s s := fun _ l live => ⟨l, live, .refl l⟩

/-- A FREE slot stays FREE. -/
theorem Inherits.free (kept : Inherits s t) {k : Slot} (free : s.slot k = none) : t.slot k = none := by
  refine Option.eq_none_iff_forall_ne_some.2 (fun l live => ?_)
  obtain ⟨m, held, -⟩ := kept k l live
  exact Option.some_ne_none m (held.symm.trans free)

theorem inherits_of_free (free : ∀ k, t.slot k = none) : Inherits s t :=
  fun k l live => absurd (live.symm.trans (free k)) (Option.some_ne_none l)

section

variable {u : State} (before : Inherits s t)

include before

theorem Inherits.shape (same : ∀ k, u.shape k = t.shape k) : Inherits s u := by
  intro k l live
  obtain ⟨m, held, eq⟩ := State.live_of_shape_eq (same k) live
  obtain ⟨n, was, keeps⟩ := before k m held
  exact ⟨n, was, (Live.Keeps.of_shape_eq eq).trans keeps⟩

theorem Inherits.frame (slots : u.slots = t.slots) : Inherits s u := before.shape (State.shape_congr slots)

theorem Inherits.setSlot {k : Slot} {o : Option Live} (kept : ∀ l, o = some l → ∃ m, t.slot k = some m ∧ l.Keeps m) :
    Inherits s (t.setSlot k o) := by
  intro j l live
  by_cases here : j = k
  · subst here
    obtain ⟨m, held, late⟩ := kept l ((t.slot_setSlot_self j o).symm.trans live)
    obtain ⟨n, was, early⟩ := before j m held
    exact ⟨n, was, late.trans early⟩
  · exact before j l ((t.slot_setSlot_ne o here).symm.trans live)

theorem Inherits.freeSlot (k : Slot) : Inherits s (t.setSlot k none) :=
  before.setSlot (by rintro l ⟨⟩)

theorem Inherits.rewrite {k : Slot} {l m : Live} (live : t.slot k = some m) (keeps : l.Keeps m) :
    Inherits s (t.setSlot k (some l)) := by
  refine before.setSlot (fun n eq => ?_)
  obtain rfl := Option.some.inj eq
  exact ⟨m, live, keeps⟩

theorem Inherits.handOver (k : Slot) : Inherits s (t.handOver k) := by
  unfold State.handOver
  split
  · exact before
  · exact Inherits.frame (Inherits.freeSlot (before.frame rfl) k) (State.rechoose_slots _)

theorem Inherits.park (k : Slot) : Inherits s (t.park k) := by
  unfold State.park
  split
  next => exact before
  next l live => exact (before.frame rfl).rewrite live ⟨rfl, rfl, rfl, rfl, EntryState.noConfusion⟩

theorem Inherits.handOn (k : Slot) : Inherits s (t.handOn k) :=
  kept_ite (Inherits s) (fun _ => before.handOver k) (fun _ => before.park k)

theorem Inherits.endCollection (k : Slot) : Inherits s (t.endCollection k) := by
  unfold State.endCollection
  split
  next => exact before
  next l live =>
    refine kept_ite (Inherits s) (fun _ => ?_) (fun _ => Inherits.handOn ?_ k)
    · exact before.rewrite live ⟨rfl, rfl, rfl, rfl, EntryState.noConfusion⟩
    · exact before.rewrite live ⟨rfl, rfl, rfl, rfl, id⟩

theorem Inherits.report (h : Tick) : Inherits s (t.report h) := by
  refine kept_foldl (Inherits s) (op := State.reportSlot h) (fun {t} k before => ?_) allSlots before
  unfold State.reportSlot
  split
  · exact before
  · exact kept_ite (Inherits s) (fun _ => before.endCollection k) (fun _ => before)

theorem Inherits.moveHorizon : Inherits s t.moveHorizon := by
  unfold State.moveHorizon
  refine Inherits.report (Inherits.shape ?_ (State.shape_expire _ _)) _
  exact before.frame rfl

theorem Inherits.serveParking (l : List Slot) : Inherits s (serveParking l t) := by
  induction l generalizing t with
  | nil => exact before
  | cons k rest ih =>
    refine kept_ite (Inherits s) (fun _ => ih (Inherits.handOver ?_ k)) (fun _ => before)
    exact before.frame rfl

theorem Inherits.placesFreed : Inherits s t.placesFreed := before.serveParking t.parking

theorem Inherits.addMissed (n : Nat) (k : Slot) : Inherits s (t.addMissed n k) := before.shape (t.shape_addMissed n k)

theorem Inherits.flushWindow : Inherits s t.flushWindow := before.shape t.shape_flushWindow

theorem Inherits.drainTest : Inherits s t.drainTest := before.frame (State.drainTest_slots t)

theorem Inherits.flushEvents : Inherits s t.flushEvents := by
  unfold State.flushEvents
  refine Inherits.frame (Inherits.placesFreed ?_) (State.rechoose_slots _)
  exact before.frame (State.storeChanged_slots _)

theorem Inherits.eventLeaves : Inherits s t.eventLeaves := by
  unfold State.eventLeaves
  refine Inherits.drainTest (Inherits.placesFreed ?_)
  exact before.frame rfl

theorem Inherits.ended (item : Item) : Inherits s (t.ended item) := by
  cases item with
  | eventHeader h => exact kept_ite (Inherits s) (fun _ => before.eventLeaves) (fun _ => before)
  | record r o a =>
    have freed : Inherits s t.freeRecord := before.frame (by rw [State.freeRecord_eq])
    exact kept_ite (Inherits s) (fun _ => freed.eventLeaves) (fun _ => freed)
  | _ => exact before.frame rfl

theorem Inherits.discard (k : Slot) : Inherits s (t.discard k) := by
  unfold State.discard
  split
  · exact before
  · refine Inherits.drainTest (Inherits.frame (Inherits.freeSlot ?_ k) (State.storeChanged_slots _))
    exact kept_ite (Inherits s) (fun _ => before.frame rfl) (fun _ => before)

end

/-! ### FLUSH TRIGGERS frees the table (R48, R87) -/

theorem State.slot_flushSlot_self (s : State) (k : Slot) : (s.flushSlot k).slot k = none := by
  unfold State.flushSlot
  split
  next free => exact free
  next => exact State.slot_setSlot_self _ k none

theorem State.free_flushSlot {k : Slot} (j : Slot) (free : s.slot k = none) : (s.flushSlot j).slot k = none := by
  unfold State.flushSlot
  split
  · exact free
  · rw [State.slot_setSlot, s.slot_unmarkIf j _ k, free, ite_self]

theorem slot_foldl_flushSlot {k : Slot} (l : List Slot) (turn : k ∈ l) (s : State) :
    (l.foldl State.flushSlot s).slot k = none := by
  induction l generalizing s with
  | nil => exact absurd turn List.not_mem_nil
  | cons j rest ih =>
    obtain rfl | later := List.mem_cons.1 turn
    · exact kept_foldl (fun t => t.slot k = none) (op := State.flushSlot) (fun j free => State.free_flushSlot j free) rest
        (s.slot_flushSlot_self k)
    · exact ih later _

@[simp] theorem State.slot_flushTriggers (s : State) (k : Slot) : s.flushTriggers.slot k = none := by
  have flushed := slot_foldl_flushSlot allSlots (mem_allSlots k) s
  unfold State.flushTriggers
  rw [State.slot_congr (State.storeChanged_slots _)]
  generalize allSlots.foldl State.flushSlot s = u at flushed ⊢
  exact flushed

/-! ### The acts -/

/-- Every act but an admission leaves of the table what is said of `Inherits`. -/
theorem Act.inherits (act : Act s t) : Inherits s t ∨ ∃ a k, a.Legal s ∧ s.slot k = none ∧
    (a.source = .command → s.tagHeld a.tag = false) ∧ t = s.admitInto a k := by
  have same := Inherits.refl s
  cases act with
  | admission a k legal free unheld on => exact .inr ⟨a, k, legal, free, unheld, rfl⟩
  | moveHorizon => exact .inl same.moveHorizon.drainTest
  | discard k => exact .inl (same.discard k)
  | confirm k l live => exact .inl (same.shape (State.shape_setSlot_of_eq live rfl))
  | handOn k => exact .inl (same.handOn k).drainTest
  | reset => exact .inl (inherits_of_free State.slot_reset)
  | stop => exact .inl (Inherits.drainTest (same.frame rfl))
  | flush selection =>
    refine .inl (kept_flushSelected (Inherits s) same (fun t kept => kept.flushWindow)
      (fun t _ => inherits_of_free t.slot_flushTriggers) (fun t kept => kept.flushEvents) (fun t kept => ?_)
      (fun t kept => kept.frame rfl) selection).drainTest
    rw [State.flushNotices_eq]
    exact kept.frame rfl
  | endItem item => exact .inl ((Inherits.ended (t := { s with framer := .idle }) (same.frame rfl) item).frame rfl)
  | rechoose | notice => rw [State.rechoose_eq]; exact .inl (same.frame rfl)
  | countThrottle => rw [State.countThrottle_eq]; exact .inl (same.frame rfl)
  | writeReg => rw [State.writeReg_eq]; exact .inl (same.frame rfl)
  | beginItem => rw [State.beginItem_eq]; exact .inl (same.frame rfl)
  | _ => exact .inl (same.frame rfl)

theorem PathAct.inherits (act : PathAct s t) : Inherits s t := by
  have same := Inherits.refl s
  cases act with
  | addMissed n k => exact same.addMissed n k
  | pair => rw [State.settleLink_eq]; exact same.frame rfl
  | _ => exact same.frame rfl

end

end Sys2Proof.Machine
end

section
/-! OFF and DRAIN: no act but an admission makes a slot live, none but a creation puts an entry into the window, and both come
with the recorder on; DRAIN ends with the removal that leaves both empty (R7, R39, R173 to R177). -/

-- One theorem after another: side by side they ask for more threads than the check's memory limit allows.
set_option Elab.async false

namespace Sys2Proof.Machine

open Sys2Proof

section

variable {s t : State}

/-! ### OFF (R7, R39, R173) -/

theorem window_nil_of_bareWindow (same : t.bareWindow = s.bareWindow) (empty : s.window = []) : t.window = [] :=
  List.eq_nil_of_length_eq_zero (by rw [length_of_bareWindow_eq same, empty]; rfl)

/-- What fills neither the window nor a slot keeps OFF empty. -/
theorem OffIsEmpty.mono (off : OffIsEmpty s) (state : t.recState = s.recState := by rfl)
    (window : s.window = [] → t.window = [] := by exact id)
    (slots : Inherits s t := by exact (Inherits.refl _).frame rfl) : OffIsEmpty t := by
  intro isOff
  obtain ⟨empty, free⟩ := off (state.symm.trans isOff)
  exact ⟨window empty, fun k => slots.free (free k)⟩

theorem offIsEmpty_of_on (on : s.recState ≠ .off) : OffIsEmpty s := fun isOff => absurd isOff on

theorem OffIsEmpty.drainTest (off : OffIsEmpty s) : OffIsEmpty s.drainTest := by
  unfold State.drainTest
  exact kept_ite OffIsEmpty (fun ends _ => State.settled_iff.1 ends.2) (fun _ => off)

theorem OffIsEmpty.frame (off : OffIsEmpty s) (state : t.recState = s.recState) (window : t.window = s.window)
    (slots : t.slots = s.slots) : OffIsEmpty t :=
  off.mono state (fun empty => window.trans empty) ((Inherits.refl s).frame slots)

theorem OffIsEmpty.eventLeaves (off : OffIsEmpty s) : OffIsEmpty s.eventLeaves := by
  unfold State.eventLeaves
  refine OffIsEmpty.drainTest (off.mono ?_ (fun empty => ?_) (Inherits.placesFreed ?_))
  · rw [State.placesFreed_eq]
    rfl
  · rw [State.placesFreed_eq]
    exact empty
  · exact (Inherits.refl s).frame rfl

theorem OffIsEmpty.ended (off : OffIsEmpty s) (item : Item) : OffIsEmpty (s.ended item) := by
  cases item with
  | eventHeader h => exact kept_ite OffIsEmpty (fun _ => off.eventLeaves) (fun _ => off)
  | record r o a =>
    have freed : OffIsEmpty s.freeRecord := by
      rw [State.freeRecord_eq]
      exact off.frame rfl rfl rfl
    exact kept_ite OffIsEmpty (fun _ => freed.eventLeaves) (fun _ => freed)
  | _ => exact off.mono

theorem offIsEmpty_actKept : ActKept OffIsEmpty := by
  intro s t act off
  have same := Inherits.refl s
  cases act with
  | moveHorizon =>
    refine OffIsEmpty.drainTest (off.mono (by rw [State.moveHorizon_eq]) (fun empty => ?_) same.moveHorizon)
    rw [State.moveHorizon_window, empty]
    rfl
  | discard k l live =>
    unfold State.discard
    rw [live]
    refine OffIsEmpty.drainTest (off.mono ?_ (fun empty => ?_) ?_)
    · rw [State.storeChanged_recState]
      exact kept_ite (fun t => t.recState = s.recState) (fun _ => rfl) (fun _ => rfl)
    · rw [State.storeChanged_window]
      exact window_nil_of_bareWindow (s.unmarkIf_bareWindow k _) empty
    · refine Inherits.frame (Inherits.freeSlot ?_ k) (State.storeChanged_slots _)
      exact kept_ite (Inherits s) (fun _ => same.frame rfl) (fun _ => same)
  | confirm k l live => exact off.mono (slots := same.shape (State.shape_setSlot_of_eq live rfl))
  | handOn k =>
    refine OffIsEmpty.drainTest (off.mono ?_ (fun empty => ?_) (same.handOn k))
    · rw [State.handOn_eq]
    · rw [State.handOn_eq]
      exact empty
  | admission a k legal free unheld on => exact offIsEmpty_of_on on
  | start => exact offIsEmpty_of_on RecState.noConfusion
  | stop => exact OffIsEmpty.drainTest (offIsEmpty_of_on RecState.noConfusion)
  | reset => exact fun _ => ⟨rfl, State.slot_reset⟩
  | flush selection =>
    refine (kept_flushSelected OffIsEmpty off (fun t off => ?_) (fun t off => ?_) (fun t off => ?_) (fun t off => ?_)
      (fun t off => off.mono) selection).drainTest
    · exact off.mono (by rw [State.flushWindow_eq]) (fun _ => by rw [State.flushWindow, foldl_chargeFlush_eq])
        (Inherits.refl t).flushWindow
    · exact off.mono (by rw [State.flushTriggers_eq]) (window_nil_of_bareWindow t.flushTriggers_bareWindow)
        (inherits_of_free t.slot_flushTriggers)
    · exact off.mono (by rw [State.flushEvents_eq]) (fun empty => by rw [State.flushEvents_eq]; exact empty)
        (Inherits.refl t).flushEvents
    · rw [State.flushNotices_eq]
      exact off.frame rfl rfl rfl
  | endItem item => exact (OffIsEmpty.ended (s := { s with framer := .idle }) off item).frame rfl rfl rfl
  | mrst => exact off.mono (window := fun empty => by rw [empty]; rfl)
  | rechoose | notice => rw [State.rechoose_eq]; exact off.frame rfl rfl rfl
  | countThrottle => rw [State.countThrottle_eq]; exact off.frame rfl rfl rfl
  | writeReg => rw [State.writeReg_eq]; exact off.frame rfl rfl rfl
  | beginItem => rw [State.beginItem_eq]; exact off.frame rfl rfl rfl
  | _ => exact off.frame rfl rfl rfl

theorem offIsEmpty_pathKept : PathKept OffIsEmpty := by
  intro s t act off
  cases act with
  | createEntry r run => exact offIsEmpty_of_on (by rw [State.createEntry_recState, run]; decide)
  | addMissed n k =>
    exact off.mono (by rw [State.addMissed_eq]) (fun empty => by rw [State.addMissed_eq]; exact empty)
      ((Inherits.refl s).addMissed n k)
  | pair item ts =>
    refine off.mono (by rw [State.settleLink_eq]) (fun empty => ?_)
      (by rw [State.settleLink_eq]; exact (Inherits.refl s).frame rfl)
    unfold State.settleLink
    split
    · simp [State.fill, empty]
    · exact empty
    · exact empty
  | _ => exact off.frame rfl rfl rfl

/-! ### DRAIN (R176, R177) -/

/-- After Run Control's test DRAIN stands only where there is work. -/
theorem drainHasWork_drainTest (s : State) : DrainHasWork s.drainTest := by
  unfold State.drainTest
  split
  next => exact fun drain => RecState.noConfusion drain
  next stays =>
    intro drain
    by_contra work
    rw [not_or, not_not, not_exists] at work
    exact stays ⟨drain, State.settled_iff.2 ⟨work.1, fun k => not_not.1 (work.2 k)⟩⟩

/-- What empties neither the window nor a slot keeps DRAIN's work. -/
theorem DrainHasWork.mono (work : DrainHasWork s) (state : t.recState = s.recState := by rfl)
    (window : s.window ≠ [] → t.window ≠ [] := by exact id)
    (slots : ∀ {k}, s.slot k ≠ none → t.slot k ≠ none := by exact id) : DrainHasWork t := by
  intro drain
  exact (work (state.symm.trans drain)).imp window (fun ⟨k, live⟩ => ⟨k, slots live⟩)

theorem DrainHasWork.frame (work : DrainHasWork s) (state : t.recState = s.recState) (window : t.window = s.window)
    (slots : t.slots = s.slots) : DrainHasWork t :=
  work.mono state (fun some => window.symm ▸ some) (fun {k} live => (State.slot_congr slots k).symm ▸ live)

theorem drainHasWork_of_not_drain (other : s.recState ≠ .drain) : DrainHasWork s := fun drain => absurd drain other

theorem DrainHasWork.ended (work : DrainHasWork s) (item : Item) : DrainHasWork (s.ended item) := by
  cases item with
  | eventHeader h => exact kept_ite DrainHasWork (fun _ => drainHasWork_drainTest _) (fun _ => work)
  | record r o a =>
    refine kept_ite DrainHasWork (fun _ => drainHasWork_drainTest _) (fun _ => ?_)
    rw [State.freeRecord_eq]
    exact work.frame rfl rfl rfl
  | _ => exact work.mono

theorem State.live_setSlot_some {k : Slot} (j : Slot) (l : Live) (live : s.slot k ≠ none) :
    (s.setSlot j (some l)).slot k ≠ none := by
  rw [State.slot_setSlot]
  split
  · exact Option.some_ne_none l
  · exact live

theorem drainHasWork_actKept : ActKept DrainHasWork := by
  intro s t act work
  cases act with
  | moveHorizon | handOn | stop | flush => exact drainHasWork_drainTest _
  | discard k l live =>
    unfold State.discard
    rw [live]
    exact drainHasWork_drainTest _
  | confirm k l => exact work.mono (slots := State.live_setSlot_some k _)
  | admission a k => exact fun _ => .inr ⟨k, by rw [s.slot_admitInto_self a k]; exact Option.some_ne_none _⟩
  | start | reset => exact drainHasWork_of_not_drain RecState.noConfusion
  | endItem item => exact (DrainHasWork.ended (s := { s with framer := .idle }) work item).frame rfl rfl rfl
  | mrst => exact work.mono (window := fun some => by simpa using some)
  | rechoose | notice => rw [State.rechoose_eq]; exact work.frame rfl rfl rfl
  | countThrottle => rw [State.countThrottle_eq]; exact work.frame rfl rfl rfl
  | writeReg => rw [State.writeReg_eq]; exact work.frame rfl rfl rfl
  | beginItem => rw [State.beginItem_eq]; exact work.frame rfl rfl rfl
  | _ => exact work.frame rfl rfl rfl

theorem drainHasWork_pathKept : PathKept DrainHasWork := by
  intro s t act work
  cases act with
  | createEntry r => exact fun _ => .inl (List.append_ne_nil_of_right_ne_nil _ (List.cons_ne_nil _ _))
  | addMissed n k =>
    unfold State.addMissed
    split
    · exact work
    · exact work.mono (slots := State.live_setSlot_some k _)
  | pair item ts =>
    refine work.mono (by rw [State.settleLink_eq]) (fun some => ?_) (fun live => by rw [State.settleLink_eq]; exact live)
    unfold State.settleLink
    split
    · simpa [State.fill] using some
    · exact some
    · exact some
  | _ => exact work.frame rfl rfl rfl

end

/-- Settles O54: what fills the window or a slot comes with the recorder on, and every removal in DRAIN ends with Run
Control's test. -/
theorem stepKeepsOffEmpty : Obligations.StepKeepsOffEmpty := by
  unfold Obligations.StepKeepsOffEmpty
  intro s t ran
  exact ⟨step_keeps offIsEmpty_actKept offIsEmpty_pathKept ran, step_keeps drainHasWork_actKept drainHasWork_pathKept ran⟩

end Sys2Proof.Machine
end

section
/-! The parking list: it holds the PARKED entries, each once, and waits only behind a full Event Queue (R42, R82). -/

-- One theorem after another: side by side they ask for more threads than the check's memory limit allows.
set_option Elab.async false

namespace Sys2Proof.Machine

open Sys2Proof

section

variable {s t : State}

/-! ### The list and the entries -/

/-- The parking list holds each PARKED entry once and nothing else. -/
def ParkingExact (s : State) : Prop := s.parking.Nodup ∧ ∀ k, k ∈ s.parking ↔ s.isParked k

theorem ParkingSound.exact (sound : ParkingSound s) : ParkingExact s := ⟨sound.1, sound.2.1⟩

theorem ParkingExact.sound (exact : ParkingExact s) (full : s.parking ≠ [] → Config.queuePlaces ≤ s.queue.length) :
    ParkingSound s := ⟨exact.1, exact.2, full⟩

theorem State.isParked_of_shape_eq {k : Slot} (same : t.shape k = s.shape k) : t.isParked k ↔ s.isParked k := by
  have carry {t s : State} (same : t.shape k = s.shape k) (parked : t.isParked k) : s.isParked k := by
    obtain ⟨l, live, state⟩ := parked
    obtain ⟨m, held, eq⟩ := State.live_of_shape_eq same live
    exact ⟨m, held, (Live.state_of_shape_eq eq).trans state⟩
  exact ⟨carry same, carry same.symm⟩

/-- What leaves the list and the shape of each entry leaves the list exact. -/
theorem ParkingExact.congr (exact : ParkingExact s) (parking : t.parking = s.parking)
    (shape : ∀ k, t.shape k = s.shape k) : ParkingExact t := by
  obtain ⟨nodup, mem⟩ := exact
  refine ⟨parking ▸ nodup, fun k => ?_⟩
  rw [parking, mem, State.isParked_of_shape_eq (shape k)]

/-- What leaves the list and the shape of each entry, and takes no event from the queue, keeps the list sound. -/
theorem ParkingSound.congr (sound : ParkingSound s) (parking : t.parking = s.parking := by rfl)
    (shape : ∀ k, t.shape k = s.shape k := by exact State.shape_congr rfl)
    (queue : s.queue.length ≤ t.queue.length := by exact le_rfl) : ParkingSound t := by
  refine (sound.exact.congr parking shape).sound (fun waits => ?_)
  rw [parking] at waits
  exact (sound.2.2 waits).trans queue

theorem ParkingSound.frame (sound : ParkingSound s) (parking : t.parking = s.parking) (slots : t.slots = s.slots)
    (queue : t.queue = s.queue) : ParkingSound t :=
  sound.congr parking (State.shape_congr slots) (queue ▸ le_rfl)

theorem State.not_isParked_of_live {k : Slot} {l : Live} (live : s.slot k = some l) (unparked : l.state ≠ .parked) :
    ¬ s.isParked k := by
  rintro ⟨m, held, parked⟩
  obtain rfl := Option.some.inj (live.symm.trans held)
  exact unparked parked

theorem State.not_isParked_of_free {k : Slot} (free : s.slot k = none) : ¬ s.isParked k := by
  rintro ⟨m, held, -⟩
  exact Option.some_ne_none m (held.symm.trans free)

/-- A slot whose entry is not PARKED is rewritten with none that is. -/
theorem ParkingExact.setSlot (exact : ParkingExact s) {k : Slot} (before : ¬ s.isParked k) {o : Option Live}
    (after : ∀ l, o = some l → l.state ≠ .parked) : ParkingExact (s.setSlot k o) := by
  refine ⟨exact.1, fun j => ?_⟩
  show j ∈ s.parking ↔ _
  rw [exact.2]
  by_cases here : j = k
  · subst here
    refine iff_of_false before ?_
    rintro ⟨m, held, parked⟩
    exact after m ((s.slot_setSlot_self j o).symm.trans held) parked
  · unfold State.isParked
    rw [State.slot_setSlot_ne s o here]

theorem ParkingSound.setSlot (sound : ParkingSound s) {k : Slot} (before : ¬ s.isParked k) {o : Option Live}
    (after : ∀ l, o = some l → l.state ≠ .parked) : ParkingSound (s.setSlot k o) :=
  (sound.exact.setSlot before after).sound sound.2.2

theorem ParkingSound.rechoose (sound : ParkingSound s) : ParkingSound s.rechoose := by
  rw [State.rechoose_eq]
  exact sound.frame rfl rfl rfl

theorem ParkingSound.drainTest (sound : ParkingSound s) : ParkingSound s.drainTest := by
  rw [State.drainTest_eq]
  exact sound.frame rfl rfl rfl

theorem ParkingSound.storeChanged (sound : ParkingSound s) : ParkingSound s.storeChanged := by
  rw [State.storeChanged_eq]
  exact sound.frame rfl rfl rfl

/-- A hand-over from a slot that is not PARKED (R41). -/
theorem ParkingSound.handOver (sound : ParkingSound s) {k : Slot} (unparked : ¬ s.isParked k) :
    ParkingSound (s.handOver k) := by
  unfold State.handOver
  split
  · exact sound
  next l live =>
    refine ParkingSound.rechoose (ParkingSound.setSlot (s := { s with queue := s.queue ++ [l.completed] }) ?_ unparked
      (by rintro m ⟨⟩))
    exact sound.congr (queue := by rw [List.length_append]; exact Nat.le_add_right _ _)

/-- An entry that parks joins the list behind a full queue (R42). -/
theorem ParkingSound.park (sound : ParkingSound s) {k : Slot} (unparked : ¬ s.isParked k)
    (full : Config.queuePlaces ≤ s.queue.length) : ParkingSound (s.park k) := by
  unfold State.park
  split
  next => exact sound
  next l live =>
    obtain ⟨nodup, mem⟩ := sound.exact
    refine ParkingExact.sound ⟨?_, fun j => ?_⟩ (fun _ => full)
    · refine List.nodup_append.2 ⟨nodup, List.nodup_singleton k, ?_⟩
      rintro a waits b single rfl
      exact unparked ((mem a).1 waits |> (List.mem_singleton.1 single ▸ ·))
    · show j ∈ s.parking ++ [k] ↔ _
      rw [List.mem_append, List.mem_singleton, mem]
      unfold State.isParked
      by_cases here : j = k
      · subst here
        exact iff_of_true (.inr rfl) ⟨_, State.slot_setSlot_self _ j _, rfl⟩
      · rw [State.slot_setSlot_ne _ _ here]
        exact or_iff_left here

theorem ParkingSound.handOn (sound : ParkingSound s) {k : Slot} (unparked : ¬ s.isParked k) :
    ParkingSound (s.handOn k) := by
  unfold State.handOn
  refine kept_ite ParkingSound (fun _ => sound.handOver unparked) (fun full => sound.park unparked ?_)
  rw [State.queueRoom_iff, not_lt] at full
  exact full

theorem ParkingSound.report (sound : ParkingSound s) (h : Tick) : ParkingSound (s.report h) := by
  refine kept_foldl ParkingSound (op := State.reportSlot h) (fun {t} k sound => ?_) allSlots sound
  unfold State.reportSlot
  split
  next => exact sound
  next l live =>
    refine kept_ite ParkingSound (fun ends => ?_) (fun _ => sound)
    have unparked : ¬ t.isParked k := State.not_isParked_of_live live (by rw [ends.1]; exact EntryState.noConfusion)
    unfold State.endCollection
    rw [live]
    refine kept_ite ParkingSound (fun _ => sound.setSlot unparked ?_) (fun _ => ParkingSound.handOn ?_ ?_)
    · rintro m ⟨⟩ parked
      exact EntryState.noConfusion parked
    · refine sound.setSlot unparked ?_
      rintro m ⟨⟩ parked
      exact EntryState.noConfusion (ends.1.symm.trans parked)
    · exact State.not_isParked_of_live (t.slot_setSlot_self k _) (by rw [ends.1]; exact EntryState.noConfusion)

theorem ParkingSound.moveHorizon (sound : ParkingSound s) : ParkingSound s.moveHorizon := by
  unfold State.moveHorizon
  refine ParkingSound.report (sound.congr ?_ (fun k => ?_) ?_) _
  · rw [State.expire_eq]
  · exact State.shape_expire _ _ k
  · rw [State.expire_eq]

theorem ParkingSound.discard (sound : ParkingSound s) {k : Slot} {l : Live} (live : s.slot k = some l)
    (unparked : l.state ≠ .parked) : ParkingSound (s.discard k) := by
  unfold State.discard
  rw [live]
  have marks : ParkingSound (if l.state = .collecting then s.unmarkAll k else s) :=
    kept_ite ParkingSound (fun _ => sound.frame rfl rfl rfl) (fun _ => sound)
  have same : ¬ (if l.state = .collecting then s.unmarkAll k else s).isParked k := by
    refine State.not_isParked_of_live ((s.slot_unmarkIf k _ k).trans live) unparked
  exact (marks.setSlot same (by rintro m ⟨⟩)).storeChanged.drainTest

/-! ### Serving the list (R82) -/

/-- From an exact list, serving it goes on until it is empty or the queue is full. -/
theorem parkingSound_serveParking (l : List Slot) (exact : ParkingExact s) (list : s.parking = l) :
    ParkingSound (serveParking l s) := by
  induction l generalizing s with
  | nil => exact exact.sound (fun waits => absurd list waits)
  | cons k rest ih =>
    unfold serveParking
    split
    next =>
      obtain ⟨nodup, mem⟩ := exact
      rw [list] at nodup mem
      obtain ⟨once, nodup⟩ := List.nodup_cons.1 nodup
      obtain ⟨l, live, -⟩ := (mem k).1 List.mem_cons_self
      have served : State.handOver { s with parking := rest } k =
          (({ s with parking := rest, queue := s.queue ++ [l.completed] } : State).setSlot k none).rechoose := by
        unfold State.handOver
        rw [show State.slot { s with parking := rest } k = some l from live]
      rw [served]
      refine ih ?_ (by rw [State.rechoose_parking]; rfl)
      refine ParkingExact.congr (s := ({ s with parking := rest } : State).setSlot k none) ⟨nodup, fun j => ?_⟩
        (State.rechoose_parking _) (State.shape_congr (State.rechoose_slots _))
      show j ∈ rest ↔ _
      unfold State.isParked
      by_cases here : j = k
      · subst here
        exact iff_of_false once (State.not_isParked_of_free (State.slot_setSlot_self _ j none))
      · rw [State.slot_setSlot_ne _ _ here]
        have still := mem j
        rw [List.mem_cons, or_iff_right here] at still
        exact still
    next full =>
      rw [State.queueRoom_iff, not_lt] at full
      exact exact.sound (fun _ => full)

theorem ParkingExact.placesFreed (exact : ParkingExact s) : ParkingSound s.placesFreed :=
  parkingSound_serveParking s.parking exact rfl

theorem ParkingSound.eventLeaves (sound : ParkingSound s) : ParkingSound s.eventLeaves := by
  unfold State.eventLeaves
  refine (ParkingExact.placesFreed (sound.exact.congr ?_ (State.shape_congr ?_))).drainTest
  · rfl
  · rfl

theorem ParkingSound.flushEvents (sound : ParkingSound s) : ParkingSound s.flushEvents := by
  unfold State.flushEvents
  refine (ParkingExact.placesFreed (sound.exact.congr ?_ (State.shape_congr ?_))).rechoose
  · rw [State.storeChanged_parking]
  · rw [State.storeChanged_slots]

theorem ParkingSound.flushWindow (sound : ParkingSound s) : ParkingSound s.flushWindow :=
  sound.congr (by rw [State.flushWindow_eq]) s.shape_flushWindow (by rw [State.flushWindow_eq])

theorem ParkingSound.ended (sound : ParkingSound s) (item : Item) : ParkingSound (s.ended item) := by
  cases item with
  | eventHeader h => exact kept_ite ParkingSound (fun _ => sound.eventLeaves) (fun _ => sound)
  | record r o a =>
    have freed : ParkingSound s.freeRecord := by
      refine ParkingSound.storeChanged (sound.congr (queue := ?_))
      exact (length_dropHeadRecord s.queue).ge
    exact kept_ite ParkingSound (fun _ => freed.eventLeaves) (fun _ => freed)
  | _ => exact sound.frame rfl rfl rfl

theorem State.flushTriggers_parking (s : State) : s.flushTriggers.parking = [] := by
  rw [State.flushTriggers, State.storeChanged_parking]

/-- An empty table and an empty list are sound. -/
theorem parkingSound_of_empty (list : s.parking = []) (free : ∀ k, s.slot k = none) : ParkingSound s := by
  refine ParkingExact.sound ⟨by rw [list]; exact List.nodup_nil, fun k => ?_⟩ (fun waits => absurd list waits)
  rw [list]
  exact iff_of_false List.not_mem_nil (State.not_isParked_of_free (free k))

/-! ### The acts -/

theorem parkingSound_actKept : ActKept ParkingSound := by
  intro s t act sound
  cases act with
  | moveHorizon => exact sound.moveHorizon.drainTest
  | discard k l live unparked => exact sound.discard live unparked
  | confirm k l live => exact sound.congr (shape := State.shape_setSlot_of_eq live rfl)
  | handOn k l deadline live held =>
    exact (sound.handOn (State.not_isParked_of_live live (by rw [held]; exact EntryState.noConfusion))).drainTest
  | admission a k legal free =>
    have admitted := sound.setSlot (State.not_isParked_of_free free)
      (o := some (a.entry (if takesDeviceTag a.source then s.deviceTagFor else a.tag)))
      (by rintro l ⟨⟩ parked; exact EntryState.noConfusion parked)
    exact admitted.frame rfl rfl rfl
  | reset => exact parkingSound_of_empty rfl State.slot_reset
  | flush selection =>
    refine (kept_flushSelected ParkingSound sound (fun t sound => sound.flushWindow) (fun t _ => ?_)
      (fun _ => ParkingSound.flushEvents)
      (fun t sound => ?_) (fun t sound => sound.frame rfl rfl rfl) selection).drainTest
    · exact parkingSound_of_empty t.flushTriggers_parking t.slot_flushTriggers
    · rw [State.flushNotices_eq]
      exact sound.frame rfl rfl rfl
  | endItem item =>
    exact (ParkingSound.ended (s := { s with framer := .idle }) (sound.frame rfl rfl rfl) item).frame rfl rfl rfl
  | stop => exact ParkingSound.drainTest (sound.frame rfl rfl rfl)
  | rechoose => exact sound.rechoose
  | notice => exact ParkingSound.rechoose (sound.frame rfl rfl rfl)
  | countThrottle => rw [State.countThrottle_eq]; exact sound.frame rfl rfl rfl
  | writeReg => rw [State.writeReg_eq]; exact sound.frame rfl rfl rfl
  | beginItem => rw [State.beginItem_eq]; exact sound.frame rfl rfl rfl
  | _ => exact sound.frame rfl rfl rfl

theorem parkingSound_pathKept : PathKept ParkingSound := by
  intro s t act sound
  cases act with
  | addMissed n k =>
    exact sound.congr (by rw [State.addMissed_eq]) (s.shape_addMissed n k) (by rw [State.addMissed_eq])
  | pair => rw [State.settleLink_eq]; exact sound.frame rfl rfl rfl
  | _ => exact sound.frame rfl rfl rfl

end

/-- Settles O55: an entry joins the list where it becomes PARKED, behind a full queue, and leaves it at its hand-over; every
act that frees a place of the queue serves the list. -/
theorem stepKeepsParkingSound : Obligations.StepKeepsParkingSound := by
  unfold Obligations.StepKeepsParkingSound
  intro s t ran
  exact step_keeps parkingSound_actKept parkingSound_pathKept ran

end Sys2Proof.Machine
end

section
/-! Tags: the search for a device tag ends within 17 steps at a tag that no live entry holds (R31), so live tags stay distinct
and COMMAND tags below the device tags (R25, R30). -/

-- One theorem after another: side by side they ask for more threads than the check's memory limit allows.
set_option Elab.async false

namespace Sys2Proof.Machine

open Sys2Proof

/-! ### The device tags in turn (R31) -/

/-- The device tag that stands i places after one; 255 is followed by 192. -/
def deviceTagAfter (c : Tag) (i : Nat) : Tag := BitVec.ofNat 8 (192 + (c.toNat - 192 + i) % 64)

theorem deviceTagAfter_toNat (c : Tag) (i : Nat) : (deviceTagAfter c i).toNat = 192 + (c.toNat - 192 + i) % 64 := by
  rw [deviceTagAfter, BitVec.toNat_ofNat]
  omega

theorem deviceTagAfter_zero {c : Tag} (device : Config.firstDeviceTag ≤ c) : deviceTagAfter c 0 = c := by
  apply BitVec.eq_of_toNat_eq
  rw [deviceTagAfter_toNat]
  bv_omega

theorem firstDeviceTag_le_deviceTagAfter (c : Tag) (i : Nat) : Config.firstDeviceTag ≤ deviceTagAfter c i := by
  rw [BitVec.le_def, deviceTagAfter_toNat]
  exact Nat.le_add_right _ _

theorem nextDeviceTag_deviceTagAfter (c : Tag) (i : Nat) :
    nextDeviceTag (deviceTagAfter c i) = deviceTagAfter c (i + 1) := by
  apply BitVec.eq_of_toNat_eq
  have here := deviceTagAfter_toNat c i
  rw [deviceTagAfter_toNat]
  unfold nextDeviceTag
  split
  next last =>
    rw [last] at here
    have : (255 : Tag).toNat = 255 := rfl
    have : Config.firstDeviceTag.toNat = 192 := rfl
    omega
  next inner =>
    have : (deviceTagAfter c i).toNat ≠ 255 := fun e => inner (BitVec.eq_of_toNat_eq e)
    rw [BitVec.toNat_add]
    have : (1 : Tag).toNat = 1 := rfl
    omega

theorem firstDeviceTag_le_nextDeviceTag {c : Tag} (device : Config.firstDeviceTag ≤ c) :
    Config.firstDeviceTag ≤ nextDeviceTag c := by
  rw [← deviceTagAfter_zero device, nextDeviceTag_deviceTagAfter]
  exact firstDeviceTag_le_deviceTagAfter c _

/-- The first 64 device tags from one on differ. -/
theorem deviceTagAfter_injective {c : Tag} {i j : Nat} (hi : i < 64) (hj : j < 64)
    (same : deviceTagAfter c i = deviceTagAfter c j) : i = j := by
  have := congrArg BitVec.toNat same
  rw [deviceTagAfter_toNat, deviceTagAfter_toNat] at this
  omega

/-! ### The search -/

/-- The search passes held tags only, and ends at a free one unless its steps run out. -/
theorem searchTag_deviceTagAfter (held : Tag → Bool) (c : Tag) (n i : Nat) : ∃ m, i ≤ m ∧ m ≤ i + n ∧
    searchTag held n (deviceTagAfter c i) = deviceTagAfter c m ∧
    (∀ j, i ≤ j → j < m → held (deviceTagAfter c j) = true) ∧ (m < i + n → held (deviceTagAfter c m) = false) := by
  induction n generalizing i with
  | zero => exact ⟨i, le_rfl, le_rfl, rfl, fun j low high => absurd low (by omega), fun h => absurd h (by omega)⟩
  | succ n ih =>
    unfold searchTag
    cases taken : held (deviceTagAfter c i) with
    | false => exact ⟨i, le_rfl, by omega, by simp, fun j low high => absurd low (by omega), fun _ => taken⟩
    | true =>
      obtain ⟨m, low, high, found, passed, free⟩ := ih (i + 1)
      refine ⟨m, by omega, by omega, ?_, fun j from_ below => ?_, fun short => free (by omega)⟩
      · rw [if_pos rfl, nextDeviceTag_deviceTagAfter, found]
      · obtain rfl | later := from_.eq_or_lt
        · exact taken
        · exact passed j later below

section

variable {s t : State}

/-- Sixteen slots do not hold the first seventeen device tags. -/
theorem State.exists_tag_unheld (s : State) (c : Tag) : ∃ i, i < 17 ∧ s.tagHeld (deviceTagAfter c i) = false := by
  by_contra all
  have held (i : Fin 17) : ∃ k l, s.slot k = some l ∧ l.tag = deviceTagAfter c i := by
    refine State.tagHeld_iff.1 ?_
    rw [← Bool.not_eq_false]
    exact fun free => all ⟨i, i.isLt, free⟩
  choose slot entry live tag using held
  have apart : Function.Injective slot := by
    intro i j same
    have entries : entry i = entry j := Option.some.inj ((live i).symm.trans (same ▸ live j))
    exact Fin.ext (deviceTagAfter_injective (by omega) (by omega) ((tag i).symm.trans ((congrArg _ entries).trans (tag j))))
  exact absurd (Fintype.card_le_of_injective slot apart) (by decide)

/-- The device tag of an admission is the first that no live entry holds, within 17 steps (R31). -/
theorem State.deviceTagFor_spec (device : Config.firstDeviceTag ≤ s.deviceTag) : ∃ n, n < 17 ∧
    s.deviceTagFor = deviceTagAfter s.deviceTag n ∧ s.tagHeld (deviceTagAfter s.deviceTag n) = false ∧
    ∀ m, m < n → s.tagHeld (deviceTagAfter s.deviceTag m) = true := by
  obtain ⟨n, -, steps, found, passed, free⟩ := searchTag_deviceTagAfter s.tagHeld s.deviceTag 63 0
  rw [deviceTagAfter_zero device] at found
  have soon : n < 17 := by
    obtain ⟨i, low, unheld⟩ := s.exists_tag_unheld s.deviceTag
    by_contra late
    exact Bool.noConfusion (unheld.symm.trans (passed i (Nat.zero_le _) (by omega)))
  exact ⟨n, soon, found, free (by omega), fun m before => passed m (Nat.zero_le _) before⟩

theorem State.deviceTagFor_unheld (device : Config.firstDeviceTag ≤ s.deviceTag) : s.tagHeld s.deviceTagFor = false := by
  obtain ⟨n, -, found, free, -⟩ := State.deviceTagFor_spec device
  rw [found]
  exact free

theorem State.firstDeviceTag_le_deviceTagFor (device : Config.firstDeviceTag ≤ s.deviceTag) :
    Config.firstDeviceTag ≤ s.deviceTagFor := by
  obtain ⟨n, -, found, -, -⟩ := State.deviceTagFor_spec device
  rw [found]
  exact firstDeviceTag_le_deviceTagAfter _ n

/-! ### Sound tags -/

/-- What makes no slot live and leaves the counter keeps tags sound. -/
theorem TagsSound.inherits (sound : TagsSound s) (kept : Inherits s t) (counter : Config.firstDeviceTag ≤ t.deviceTag) :
    TagsSound t := by
  obtain ⟨apart, -, kinds⟩ := sound
  refine ⟨fun j k a b ha hb same => ?_, counter, fun k l live => ?_⟩
  · obtain ⟨a', ha', keepsA⟩ := kept j a ha
    obtain ⟨b', hb', keepsB⟩ := kept k b hb
    exact apart j k a' b' ha' hb' (keepsA.tag.symm.trans (same.trans keepsB.tag))
  · obtain ⟨m, held, keeps⟩ := kept k l live
    rw [keeps.tag, keeps.source]
    exact kinds k m held

theorem State.firstDeviceTag_le_admitInto (device : Config.firstDeviceTag ≤ s.deviceTag) (a : Arrival) (k : Slot) :
    Config.firstDeviceTag ≤ (s.admitInto a k).deviceTag := by
  show Config.firstDeviceTag ≤ if takesDeviceTag a.source then _ else s.deviceTag
  split
  next => exact firstDeviceTag_le_nextDeviceTag (State.firstDeviceTag_le_deviceTagFor device)
  next => exact device

/-- An admission takes a tag that no live entry holds, of its source's kind (R31, R35, R37). -/
theorem TagsSound.admitInto (sound : TagsSound s) {a : Arrival} {k : Slot} (legal : a.Legal s)
    (unheld : a.source = .command → s.tagHeld a.tag = false) : TagsSound (s.admitInto a k) := by
  obtain ⟨apart, device, kinds⟩ := sound
  have takes : takesDeviceTag a.source = true ↔ a.source ≠ .command := by simp [takesDeviceTag]
  have free : s.tagHeld (if takesDeviceTag a.source then s.deviceTagFor else a.tag) = false := by
    split
    next => exact State.deviceTagFor_unheld device
    next own => exact unheld (not_not.1 (takes.not.1 own))
  have kind : (if takesDeviceTag a.source then s.deviceTagFor else a.tag) < Config.firstDeviceTag ↔
      a.source = .command := by
    split
    next device' => exact iff_of_false (BitVec.not_lt.2 (State.firstDeviceTag_le_deviceTagFor device)) (takes.1 device')
    next own =>
      have command := not_not.1 (takes.not.1 own)
      exact iff_of_true (legal.tag command) command
  have taken := s.slot_admitInto_self a k
  generalize (if takesDeviceTag a.source then s.deviceTagFor else a.tag) = tag at free kind taken
  have other {j : Slot} (away : j ≠ k) {l : Live} (live : (s.admitInto a k).slot j = some l) : s.slot j = some l :=
    (s.slot_admitInto_ne a away).symm.trans live
  have apartFrom {j : Slot} (away : j ≠ k) {l : Live} (live : (s.admitInto a k).slot j = some l) : l.tag ≠ tag := by
    intro same
    exact Bool.noConfusion (free.symm.trans (State.tagHeld_iff.2 ⟨j, l, other away live, same⟩))
  refine ⟨fun i j b c hb hc same => ?_, State.firstDeviceTag_le_admitInto device a k, fun j l live => ?_⟩
  · by_cases hi : i = k
    · by_cases hj : j = k
      · exact hi.trans hj.symm
      · obtain rfl := Option.some.inj ((hi ▸ hb).symm.trans taken)
        exact absurd same.symm (apartFrom hj hc)
    · by_cases hj : j = k
      · obtain rfl := Option.some.inj ((hj ▸ hc).symm.trans taken)
        exact absurd same (apartFrom hi hb)
      · exact apart i j b c (other hi hb) (other hj hc) same
  · by_cases here : j = k
    · obtain rfl := Option.some.inj ((here ▸ live).symm.trans taken)
      exact kind
    · exact kinds j l (other here live)

theorem Act.firstDeviceTag_le (act : Act s t) (device : Config.firstDeviceTag ≤ s.deviceTag) :
    Config.firstDeviceTag ≤ t.deviceTag := by
  cases act with
  | admission a k => exact State.firstDeviceTag_le_admitInto device a k
  | reset => exact BitVec.le_refl _
  | moveHorizon => rw [State.drainTest_eq, State.moveHorizon_eq]; exact device
  | handOn => rw [State.drainTest_eq, State.handOn_eq]; exact device
  | stop => rw [State.drainTest_eq]; exact device
  | flush => rw [State.drainTest_eq, State.flushSelected_eq]; exact device
  | discard => rw [State.discard_eq]; exact device
  | endItem => rw [State.offer, State.ended_eq]; exact device
  | rechoose | notice => rw [State.rechoose_eq]; exact device
  | countThrottle => rw [State.countThrottle_eq]; exact device
  | writeReg => rw [State.writeReg_eq]; exact device
  | beginItem => rw [State.beginItem_eq]; exact device
  | _ => exact device

theorem tagsSound_actKept : ActKept TagsSound := by
  intro s t act sound
  obtain kept | ⟨a, k, legal, -, unheld, rfl⟩ := act.inherits
  · exact sound.inherits kept (act.firstDeviceTag_le sound.2.1)
  · exact sound.admitInto legal unheld

theorem tagsSound_pathKept : PathKept TagsSound := by
  intro s t act sound
  refine sound.inherits act.inherits ?_
  cases act with
  | addMissed => rw [State.addMissed_eq]; exact sound.2.1
  | pair => rw [State.settleLink_eq]; exact sound.2.1
  | _ => exact sound.2.1

end

/-- Settles O56: no act but an admission makes a slot live, and an admission's tag is held by no live entry. -/
theorem stepKeepsTagsSound : Obligations.StepKeepsTagsSound := by
  unfold Obligations.StepKeepsTagsSound
  intro s t ran
  exact step_keeps tagsSound_actKept tagsSound_pathKept ran

end Sys2Proof.Machine
end

section
/-! The trace port: a choice of the framer is there to be sent, every act that takes something from it re-makes the choice, and
the item being sent holds what it needs (R79, R128, R129, R136). -/

-- One theorem after another: side by side they ask for more threads than the check's memory limit allows.
set_option Elab.async false

namespace Sys2Proof.Machine

open Sys2Proof

/-! ### The framer's three states -/

/-- What an item being sent asks of the state. -/
def SendingStands (s : State) : Item → Prop
  | .eventHeader _ => s.inTransmission = true ∧ s.queue ≠ []
  | .record _ _ _ => s.inTransmission = true ∧ s.headHasRecord
  | .notice _ => s.inTransmission = false ∧ s.notices ≠ []
  | .burstClose _ _ => s.inTransmission = false ∧ s.burst ≠ none
  | .burstOpen _ _ _ => s.inTransmission = false
  | .status _ => s.inTransmission = false

section

variable {s t : State}

/-- The framer's state stands: `OfferStands` by the framer's three cases. -/
inductive OfferSound (s : State) : Prop where
  | idle (now : s.framer = .idle) (between : s.inTransmission = false)
  | offering (c : Choice) (now : s.framer = .offering c) (out : s.rst = false) (there : (s.itemOf c).isSome)
      (inside : s.inTransmission = true ↔ c = .record)
  | sending (item : Item) (now : s.framer = .sending item) (out : s.rst = false) (stands : SendingStands s item)

theorem offerStands_iff : OfferStands s ↔ OfferSound s := by
  cases now : s.framer with
  | idle =>
    simp only [OfferStands, now]
    refine ⟨.idle now, fun sound => ?_⟩
    cases sound with
    | idle _ between => exact between
    | _ => simp_all
  | offering c =>
    simp only [OfferStands, now]
    refine ⟨fun ⟨out, there, inside⟩ => .offering c now out there inside, fun sound => ?_⟩
    cases sound with
    | offering d other out there inside =>
      obtain rfl := Framer.offering.inj (now.symm.trans other)
      exact ⟨out, there, inside⟩
    | _ => simp_all
  | sending item =>
    have same : OfferStands s ↔ s.rst = false ∧ SendingStands s item := by
      simp only [OfferStands, now]
      cases item <;> rfl
    rw [same]
    refine ⟨fun ⟨out, stands⟩ => .sending item now out stands, fun sound => ?_⟩
    cases sound with
    | sending other also out stands =>
      obtain rfl := Framer.sending.inj (now.symm.trans also)
      exact ⟨out, stands⟩
    | _ => simp_all

theorem OfferSound.of_offering (sound : OfferSound s) {c : Choice} (now : s.framer = .offering c) :
    s.rst = false ∧ (s.itemOf c).isSome ∧ (s.inTransmission = true ↔ c = .record) := by
  have stands := offerStands_iff.2 sound
  simpa only [OfferStands, now] using stands

theorem OfferSound.of_sending (sound : OfferSound s) {item : Item} (now : s.framer = .sending item) :
    s.rst = false ∧ SendingStands s item := by
  cases sound with
  | sending other also out stands =>
    obtain rfl := Framer.sending.inj (now.symm.trans also)
    exact ⟨out, stands⟩
  | _ => simp_all

/-! ### What an item needs -/

theorem State.headHasRecord_congr (queue : t.queue = s.queue) : t.headHasRecord ↔ s.headHasRecord := by
  unfold State.headHasRecord
  rw [queue]

theorem State.itemOf_record_isSome : (s.itemOf .record).isSome = true ↔ s.headHasRecord := by
  unfold State.itemOf State.headHasRecord
  cases s.queue with
  | nil => simp
  | cons e rest => cases h : e.records <;> simp [h]

/-- Whether an item is there depends on the notices, the burst and the Event Queue alone. -/
theorem State.itemOf_isSome_congr (queue : t.queue = s.queue) (notices : t.notices = s.notices) (burst : t.burst = s.burst)
    (c : Choice) : (t.itemOf c).isSome = (s.itemOf c).isSome := by
  cases c with
  | record =>
    exact Bool.eq_iff_iff.2 (by rw [State.itemOf_record_isSome, State.itemOf_record_isSome, State.headHasRecord_congr queue])
  | notice => simp only [State.itemOf, notices]
  | burstClose => simp only [State.itemOf, burst]
  | eventHeader => simp only [State.itemOf, queue]
  | burstOpen => rfl
  | status => rfl

theorem SendingStands.congr {item : Item} (stands : SendingStands s item) (inside : t.inTransmission = s.inTransmission)
    (queue : t.queue = s.queue) (notices : t.notices = s.notices) (burst : t.burst = s.burst) :
    SendingStands t item := by
  cases item with
  | _ => simpa only [SendingStands, inside, queue, notices, burst, State.headHasRecord_congr queue] using stands

/-- What leaves the framer and everything it can send keeps the offer standing. -/
theorem OfferSound.frame (sound : OfferSound s) (framer : t.framer = s.framer) (rst : t.rst = s.rst)
    (inside : t.inTransmission = s.inTransmission) (queue : t.queue = s.queue) (notices : t.notices = s.notices)
    (burst : t.burst = s.burst) : OfferSound t := by
  cases sound with
  | idle now between => exact .idle (framer.trans now) (inside.trans between)
  | offering c now out there iff =>
    exact .offering c (framer.trans now) (rst.trans out) ((State.itemOf_isSome_congr queue notices burst c).trans there)
      (inside ▸ iff)
  | sending item now out stands =>
    exact .sending item (framer.trans now) (rst.trans out) (stands.congr inside queue notices burst)

/-! ### Ready for a choice -/

/-- At a boundary: an event in transmission has a record left to send, and RST_N is released. -/
def BoundaryReady (s : State) : Prop := s.inTransmission = true → s.rst = false ∧ s.headHasRecord

/-- The framer may re-make its choice: it stands at a boundary ready for one, or the item it sends stands. -/
def OfferReady (s : State) : Prop :=
  (∃ item, s.framer = .sending item ∧ s.rst = false ∧ SendingStands s item) ∨
    ((∀ item, s.framer ≠ .sending item) ∧ BoundaryReady s)

theorem OfferSound.ready (sound : OfferSound s) : OfferReady s := by
  cases sound with
  | idle now between =>
    exact .inr ⟨fun _ => by rw [now]; exact Framer.noConfusion, fun inside => Bool.noConfusion (between.symm.trans inside)⟩
  | offering c now out there iff =>
    refine .inr ⟨fun _ => by rw [now]; exact Framer.noConfusion, fun inside => ⟨out, ?_⟩⟩
    rw [iff.1 inside] at there
    exact State.itemOf_record_isSome.1 there
  | sending item now out stands => exact .inl ⟨item, now, out, stands⟩

/-- What the framer chooses at a boundary is there, and is a record exactly inside an event (R135, R136, R149). -/
theorem State.choose_there (ready : BoundaryReady s) {c : Choice} (chosen : s.choose = some c) :
    s.rst = false ∧ (s.itemOf c).isSome ∧ (s.inTransmission = true ↔ c = .record) := by
  unfold State.choose at chosen
  split at chosen
  next => exact nomatch chosen
  next out =>
    refine ⟨Bool.not_eq_true _ ▸ out, ?_⟩
    split at chosen
    next inside =>
      obtain rfl := Option.some.inj chosen
      exact ⟨State.itemOf_record_isSome.2 (ready inside).2, iff_of_true inside rfl⟩
    next between =>
      suffices there : (s.itemOf c).isSome ∧ c ≠ .record from ⟨there.1, iff_of_false between there.2⟩
      split at chosen
      next =>
        unfold State.restartChoice at chosen
        split at chosen
        · obtain rfl := Option.some.inj chosen
          exact ⟨rfl, Choice.noConfusion⟩
        · split at chosen
          · obtain rfl := Option.some.inj chosen
            exact ⟨rfl, Choice.noConfusion⟩
          · exact nomatch chosen
      next =>
        unfold State.boundaryChoice at chosen
        split at chosen
        next waits =>
          obtain rfl := Option.some.inj chosen
          refine ⟨?_, Choice.noConfusion⟩
          cases h : s.notices <;> simp_all [State.itemOf]
        next =>
          split at chosen
          next b opened =>
            split at chosen
            · obtain rfl := Option.some.inj chosen
              exact ⟨by simp [State.itemOf, opened], Choice.noConfusion⟩
            · obtain rfl := Option.some.inj chosen
              refine ⟨?_, Choice.noConfusion⟩
              cases h : s.queue <;> simp_all [State.itemOf]
          next =>
            split at chosen
            · obtain rfl := Option.some.inj chosen
              exact ⟨rfl, Choice.noConfusion⟩
            · split at chosen
              · obtain rfl := Option.some.inj chosen
                exact ⟨rfl, Choice.noConfusion⟩
              · exact nomatch chosen

theorem BoundaryReady.offer (ready : BoundaryReady s) : OfferSound s.offer := by
  cases chosen : s.choose with
  | none =>
    rw [State.offer_of_choose_none chosen]
    refine .idle rfl ?_
    show s.inTransmission = false
    by_contra inside
    rw [Bool.not_eq_false] at inside
    rw [State.choose_of_inTransmission (ready inside).1 inside] at chosen
    exact nomatch chosen
  | some c =>
    rw [State.offer_of_choose_some chosen]
    obtain ⟨out, there, iff⟩ := State.choose_there ready chosen
    have same := State.itemOf_isSome_congr (s := s) (t := { s with framer := .offering c }) rfl rfl rfl c
    exact .offering c rfl out (same.trans there) iff

theorem OfferReady.rechoose (ready : OfferReady s) : OfferSound s.rechoose := by
  obtain ⟨item, now, stands⟩ | ⟨boundary, ready⟩ := ready
  · rw [State.rechoose_of_sending now]
    exact .sending item now stands.1 stands.2
  · rw [State.rechoose_of_not_sending boundary]
    exact ready.offer

/-- What leaves the framer, RST_N and the transmission, and what the item being sent or the next record needs, keeps the
framer ready. -/
theorem OfferReady.mono (ready : OfferReady s) (framer : t.framer = s.framer) (rst : t.rst = s.rst)
    (inside : t.inTransmission = s.inTransmission) (head : s.inTransmission = true → s.headHasRecord → t.headHasRecord)
    (sending : ∀ item, s.framer = .sending item → SendingStands s item → SendingStands t item) : OfferReady t := by
  obtain ⟨item, now, out, stands⟩ | ⟨boundary, ready⟩ := ready
  · exact .inl ⟨item, framer.trans now, rst.trans out, sending item now stands⟩
  · refine .inr ⟨framer ▸ boundary, fun within => ?_⟩
    rw [inside] at within
    exact ⟨rst.trans (ready within).1, head within (ready within).2⟩

/-- A longer tail of the Event Queue leaves what its head gives. -/
theorem OfferReady.appendEvent (ready : OfferReady s) (e : Event) :
    OfferReady { s with queue := s.queue ++ [e] } := by
  have head : s.headHasRecord → State.headHasRecord { s with queue := s.queue ++ [e] } := by
    rintro ⟨first, rest, queue, some⟩
    exact ⟨first, rest ++ [e], by simp [queue], some⟩
  refine ready.mono rfl rfl rfl (fun _ => head) (fun item _ stands => ?_)
  cases item with
  | eventHeader => exact ⟨stands.1, List.append_ne_nil_of_right_ne_nil _ (List.cons_ne_nil _ _)⟩
  | record => exact ⟨stands.1, head stands.2⟩
  | _ => exact stands

theorem OfferReady.frame (ready : OfferReady s) (framer : t.framer = s.framer) (rst : t.rst = s.rst)
    (inside : t.inTransmission = s.inTransmission) (queue : t.queue = s.queue) (notices : t.notices = s.notices)
    (burst : t.burst = s.burst) : OfferReady t :=
  ready.mono framer rst inside (fun _ => (State.headHasRecord_congr queue).2)
    (fun _ _ stands => stands.congr inside queue notices burst)

theorem OfferReady.handOver (ready : OfferReady s) (k : Slot) : OfferReady (s.handOver k) := by
  unfold State.handOver
  split
  next => exact ready
  next l live =>
    refine (OfferReady.rechoose ?_).ready
    exact (ready.appendEvent l.completed).frame rfl rfl rfl rfl rfl rfl

theorem OfferReady.serveParking (ready : OfferReady s) (l : List Slot) : OfferReady (serveParking l s) := by
  induction l generalizing s with
  | nil => exact ready
  | cons k rest ih =>
    unfold Machine.serveParking
    split
    · refine ih (OfferReady.handOver ?_ k)
      exact ready.frame rfl rfl rfl rfl rfl rfl
    · exact ready

theorem OfferReady.placesFreed (ready : OfferReady s) : OfferReady s.placesFreed := ready.serveParking s.parking

/-! ### Operations that the acts share -/

theorem OfferSound.drainTest (sound : OfferSound s) : OfferSound s.drainTest := by
  rw [State.drainTest_eq]
  exact sound.frame rfl rfl rfl rfl rfl rfl

theorem OfferSound.handOver (sound : OfferSound s) (k : Slot) : OfferSound (s.handOver k) := by
  unfold State.handOver
  split
  next => exact sound
  next l live =>
    refine OfferReady.rechoose ?_
    exact (sound.ready.appendEvent l.completed).frame rfl rfl rfl rfl rfl rfl

theorem OfferSound.handOn (sound : OfferSound s) (k : Slot) : OfferSound (s.handOn k) := by
  unfold State.handOn
  split
  · exact sound.handOver k
  · rw [State.park_eq]
    exact sound.frame rfl rfl rfl rfl rfl rfl

theorem OfferSound.endCollection (sound : OfferSound s) (k : Slot) : OfferSound (s.endCollection k) := by
  have closed (o : Option Live) : OfferSound (s.setSlot k o) := sound.frame rfl rfl rfl rfl rfl rfl
  unfold State.endCollection
  split
  · exact sound
  · dsimp only
    split
    · exact closed _
    · exact (closed _).handOn k

theorem OfferSound.report (sound : OfferSound s) (h : Tick) : OfferSound (s.report h) := by
  unfold State.report
  refine kept_foldl OfferSound (op := State.reportSlot h) (fun {t} k sound => ?_) allSlots sound
  unfold State.reportSlot
  split
  next => exact sound
  next l live =>
    split
    · exact sound.endCollection k
    · exact sound

theorem OfferSound.moveHorizon (sound : OfferSound s) : OfferSound s.moveHorizon := by
  unfold State.moveHorizon
  dsimp only
  refine OfferSound.report ?_ _
  rw [State.expire_eq]
  exact sound.frame rfl rfl rfl rfl rfl rfl

/-- FLUSH EVENTS spares the event in transmission (R85). -/
theorem OfferSound.flushEvents (sound : OfferSound s) : OfferSound s.flushEvents := by
  unfold State.flushEvents
  refine (OfferReady.placesFreed ?_).rechoose
  rw [State.storeChanged_eq]
  have head {q : List Event} (within : s.inTransmission = true)
      (eq : q = if s.inTransmission then s.queue.take 1 else []) (some : s.headHasRecord) :
      ∃ e rest, q = e :: rest ∧ e.records ≠ [] := by
    obtain ⟨e, rest, queue, some⟩ := some
    exact ⟨e, [], by rw [eq, if_pos within, queue]; rfl, some⟩
  refine sound.ready.mono rfl rfl rfl (fun within => head within rfl) (fun item _ stands => ?_)
  cases item with
  | eventHeader =>
    refine ⟨stands.1, ?_⟩
    show (if s.inTransmission then s.queue.take 1 else []) ≠ []
    rw [if_pos stands.1]
    exact fun none => stands.2 (by simpa using none)
  | record => exact ⟨stands.1, head stands.1 rfl stands.2⟩
  | _ => exact stands

/-- FLUSH NOTICES spares the notice in transmission (R148). -/
theorem OfferSound.flushNotices (sound : OfferSound s) : OfferSound s.flushNotices := by
  unfold State.flushNotices
  refine OfferReady.rechoose (sound.ready.mono rfl rfl rfl (fun _ => id) (fun item now stands => ?_))
  cases item with
  | notice =>
    refine ⟨stands.1, ?_⟩
    show (if s.sendingNotice then s.notices.take 1 else []) ≠ []
    rw [if_pos (by simp only [State.sendingNotice, now])]
    exact fun none => stands.2 (by simpa using none)
  | _ => exact stands

/-! ### The beginning and the end of an item -/

/-- What begins stands (R79, R128). -/
theorem OfferSound.beginItem (sound : OfferSound s) {c : Choice} {item : Item} (offered : s.framer = .offering c)
    (there : s.itemOf c = some item) : OfferSound (s.beginItem item) := by
  obtain ⟨out, -, iff⟩ := sound.of_offering offered
  have between (other : c ≠ .record) : s.inTransmission = false := Bool.eq_false_iff.2 (fun inside => other (iff.1 inside))
  refine .sending item rfl ?_ ?_
  · rw [State.beginItem_eq]
    exact out
  cases c with
  | notice =>
    obtain ⟨n, head, rfl⟩ := Option.map_eq_some_iff.1 there
    exact ⟨between Choice.noConfusion, List.ne_nil_of_mem (List.mem_of_head? head)⟩
  | burstClose =>
    obtain ⟨b, opened, rfl⟩ := Option.map_eq_some_iff.1 there
    exact ⟨between Choice.noConfusion, fun closed => Option.some_ne_none b (opened.symm.trans closed)⟩
  | eventHeader =>
    obtain ⟨e, head, rfl⟩ := Option.map_eq_some_iff.1 there
    exact ⟨rfl, List.ne_nil_of_mem (List.mem_of_head? head)⟩
  | record =>
    have some : s.headHasRecord := State.itemOf_record_isSome.1 (by rw [there]; rfl)
    obtain ⟨e, head, record⟩ := Option.bind_eq_some_iff.1 there
    obtain ⟨r, -, rfl⟩ := Option.map_eq_some_iff.1 record
    exact ⟨iff.2 rfl, some⟩
  | burstOpen =>
    obtain rfl := Option.some.inj there
    exact between Choice.noConfusion
  | status =>
    obtain rfl := Option.some.inj there
    exact between Choice.noConfusion

theorem State.eventLeaves_inTransmission (s : State) : s.eventLeaves.inTransmission = false := by
  rw [State.eventLeaves, State.drainTest_inTransmission, State.placesFreed_eq]
  rfl

/-- An event that is there and not wholly sent has a record left (R136). -/
theorem State.headHasRecord_of_not_headSent (more : ¬ s.headSent = true) : s.headHasRecord := by
  unfold State.headSent at more
  cases queue : s.queue with
  | nil => simp [queue] at more
  | cons e rest => exact ⟨e, rest, queue, by simpa [queue] using more⟩

/-- After its end an item leaves the framer ready for the next choice (R136). -/
theorem BoundaryReady.ended {item : Item} (out : s.rst = false) (stands : SendingStands s item) :
    BoundaryReady (s.ended item) := by
  have leaves (t : State) : BoundaryReady t.eventLeaves :=
    fun inside => Bool.noConfusion (t.eventLeaves_inTransmission.symm.trans inside)
  have between (t : State) (after : t.inTransmission = false) : BoundaryReady t :=
    fun inside => Bool.noConfusion (after.symm.trans inside)
  cases item with
  | eventHeader =>
    exact kept_ite BoundaryReady (fun _ => leaves _) (fun more _ => ⟨out, State.headHasRecord_of_not_headSent more⟩)
  | record =>
    refine kept_ite BoundaryReady (fun _ => leaves _) (fun more _ => ⟨?_, State.headHasRecord_of_not_headSent more⟩)
    rw [State.freeRecord_eq]
    exact out
  | notice => exact between _ stands.1
  | burstClose => exact between _ stands.1
  | burstOpen => exact between _ stands
  | status => exact between _ stands

/-! ### The acts -/

theorem offerSound_actKept : ActKept OfferSound := by
  intro s t act sound
  cases act with
  | reset => exact .idle rfl rfl
  | release devId lineA lineB csLow asserted =>
    cases sound with
    | idle now between => exact .idle now between
    | offering c now out => exact Bool.noConfusion (out.symm.trans asserted)
    | sending item now out => exact Bool.noConfusion (out.symm.trans asserted)
  | rechoose => exact sound.ready.rechoose
  | notice n =>
    refine OfferReady.rechoose (sound.ready.mono rfl rfl rfl (fun _ => id) (fun item _ stands => ?_))
    cases item with
    | notice => exact ⟨stands.1, List.append_ne_nil_of_right_ne_nil _ (List.cons_ne_nil _ _)⟩
    | _ => exact stands
  | moveHorizon => exact sound.moveHorizon.drainTest
  | discard k =>
    rw [State.discard_eq]
    exact sound.frame rfl rfl rfl rfl rfl rfl
  | handOn k => exact (sound.handOn k).drainTest
  | stop => exact OfferSound.drainTest (sound.frame rfl rfl rfl rfl rfl rfl)
  | flush selection =>
    refine (kept_flushSelected OfferSound sound (fun t sound => ?_) (fun t sound => ?_)
      (fun t sound => sound.flushEvents) (fun t sound => sound.flushNotices)
      (fun t sound => sound.frame rfl rfl rfl rfl rfl rfl) selection).drainTest
    · rw [State.flushWindow_eq]
      exact sound.frame rfl rfl rfl rfl rfl rfl
    · rw [State.flushTriggers_eq]
      exact sound.frame rfl rfl rfl rfl rfl rfl
  | writeReg n v =>
    obtain same | ⟨r, -, -, -, written⟩ := s.writeReg_cases n v
    · rw [same]
      exact sound
    · rw [written]
      have put : OfferSound { s with regs := s.regs.put r v } := sound.frame rfl rfl rfl rfl rfl rfl
      unfold State.applyWrite
      split
      · exact sound.frame rfl rfl rfl rfl rfl rfl
      · exact put.ready.rechoose
      · exact put.ready.rechoose
      · exact put
  | beginItem c item offered there => exact sound.beginItem offered there
  | endItem item sending =>
    obtain ⟨out, stands⟩ := sound.of_sending sending
    exact (BoundaryReady.ended (s := { s with framer := .idle }) out (stands.congr rfl rfl rfl rfl)).offer
  | countThrottle => rw [State.countThrottle_eq]; exact sound.frame rfl rfl rfl rfl rfl rfl
  | _ => exact sound.frame rfl rfl rfl rfl rfl rfl

theorem offerSound_pathKept : PathKept OfferSound := by
  intro s t act sound
  cases act with
  | addMissed => rw [State.addMissed_eq]; exact sound.frame rfl rfl rfl rfl rfl rfl
  | pair => rw [State.settleLink_eq]; exact sound.frame rfl rfl rfl rfl rfl rfl
  | _ => exact sound.frame rfl rfl rfl rfl rfl rfl

end

/-- Settles O57: what the framer offers or sends stands until an act re-makes the choice; a FLUSH spares what is in
transmission. -/
theorem stepKeepsTheOfferStanding : Obligations.StepKeepsTheOfferStanding := by
  unfold Obligations.StepKeepsTheOfferStanding
  intro s t ran
  rw [offerStands_iff, offerStands_iff]
  exact step_keeps offerSound_actKept offerSound_pathKept ran

end Sys2Proof.Machine
end

section
/-! Links: an OPEN entry has one item of the Open Transaction Table to itself, from its creation to its fill, its detachment or
its end (R4, R8, R16, R22, R23, R112, R113). -/

-- One theorem after another: side by side they ask for more threads than the check's memory limit allows.
set_option Elab.async false

namespace Sys2Proof.Machine

open Sys2Proof

/-! ### A window and a table that fit -/

/-- `LinksSound` as a relation of the window's entries and the OTT's items. -/
structure LinksFit (w : List Entry) (o : List OttItem) : Prop where
  places : (w.map Entry.place).Nodup
  range : ∀ e ∈ w, e.place < Config.windowPlaces
  links : ∀ e ∈ w, o.countP (fun i => e.namedBy i.link) = if e.isOpen then 1 else 0
  known : ∀ i ∈ o, ∀ q p, i.link = .entry q p → ∃ e ∈ w, e.seq = q ∧ e.place = p

theorem linksSound_iff {s : State} : LinksSound s ↔ LinksFit s.window s.ott := by
  simp only [LinksSound, State.linksTo, ← List.countP_eq_length_filter]
  exact ⟨fun ⟨places, range, links, known⟩ => ⟨places, range, links, known⟩,
    fun ⟨places, range, links, known⟩ => ⟨places, range, links, known⟩⟩

theorem Entry.namedBy_eq_true {e : Entry} {l : Link} : e.namedBy l = true ↔ l = .entry e.seq e.place := by
  unfold Entry.namedBy
  exact beq_iff_eq

theorem Entry.namedBy_none (e : Entry) : e.namedBy .none = false := rfl
theorem Entry.namedBy_expired (e : Entry) : e.namedBy .expired = false := rfl

section

variable {w : List Entry} {o : List OttItem}

theorem linksFit_nil (unlinked : ∀ i ∈ o, ∀ q p, i.link ≠ .entry q p) : LinksFit [] o where
  places := List.nodup_nil
  range _ none := absurd none List.not_mem_nil
  links _ none := absurd none List.not_mem_nil
  known i mem q p link := absurd link (unlinked i mem q p)

/-- Two entries of one place are one entry. -/
theorem LinksFit.eq_of_place_eq (fit : LinksFit w o) {e f : Entry} (he : e ∈ w) (hf : f ∈ w) (same : e.place = f.place) :
    e = f :=
  List.inj_on_of_nodup_map fit.places he hf same

theorem LinksFit.perm {v : List Entry} (fit : LinksFit w o) (perm : v.Perm w) : LinksFit v o where
  places := (perm.map Entry.place).nodup_iff.2 fit.places
  range e mem := fit.range e (perm.mem_iff.1 mem)
  links e mem := fit.links e (perm.mem_iff.1 mem)
  known i mem q p link := by
    obtain ⟨e, inside, named⟩ := fit.known i mem q p link
    exact ⟨e, perm.mem_iff.2 inside, named⟩

theorem map_place_map {f : Entry → Entry} (place : ∀ e, (f e).place = e.place) :
    (w.map f).map Entry.place = w.map Entry.place := by
  rw [List.map_map]
  exact List.map_congr_left (fun e _ => place e)

/-- A rewriting of the entries that leaves seq, place and openness, leaves what links to them. -/
theorem linksFit_map_iff {f : Entry → Entry} (seq : ∀ e, (f e).seq = e.seq) (place : ∀ e, (f e).place = e.place)
    (isOpen : ∀ e, (f e).isOpen = e.isOpen) : LinksFit (w.map f) o ↔ LinksFit w o := by
  have places := map_place_map (w := w) place
  have named (e : Entry) (l : Link) : (f e).namedBy l = e.namedBy l := by rw [Entry.namedBy, Entry.namedBy, seq, place]
  constructor
  · intro fit
    refine ⟨places ▸ fit.places, fun e mem => ?_, fun e mem => ?_, fun i mem q p link => ?_⟩
    · exact place e ▸ fit.range (f e) (List.mem_map_of_mem mem)
    · simpa only [named, isOpen] using fit.links (f e) (List.mem_map_of_mem mem)
    · obtain ⟨_, mapped, named⟩ := fit.known i mem q p link
      obtain ⟨e, inside, rfl⟩ := List.mem_map.1 mapped
      exact ⟨e, inside, seq e ▸ named.1, place e ▸ named.2⟩
  · intro fit
    refine ⟨places ▸ fit.places, fun g mem => ?_, fun g mem => ?_, fun i mem q p link => ?_⟩
    · obtain ⟨e, inside, rfl⟩ := List.mem_map.1 mem
      exact place e ▸ fit.range e inside
    · obtain ⟨e, inside, rfl⟩ := List.mem_map.1 mem
      simpa only [named, isOpen] using fit.links e inside
    · obtain ⟨e, inside, named⟩ := fit.known i mem q p link
      exact ⟨f e, List.mem_map_of_mem inside, (seq e).trans named.1, (place e).trans named.2⟩

/-! ### A new item and a new entry (R7, R112) -/

/-- An item that links to no entry joins the table. -/
theorem LinksFit.append_unlinked (fit : LinksFit w o) {i : OttItem} (unlinked : ∀ q p, i.link ≠ .entry q p) :
    LinksFit w (o ++ [i]) where
  places := fit.places
  range := fit.range
  links e mem := by
    have apart : e.namedBy i.link = false := by
      rw [← Bool.not_eq_true, Entry.namedBy_eq_true]
      exact unlinked _ _
    rw [List.countP_append, List.countP_singleton, apart, fit.links e mem]
    rfl
  known j mem q p link := by
    obtain old | new := List.mem_append.1 mem
    · exact fit.known j old q p link
    · rw [List.mem_singleton.1 new] at link
      exact absurd link (unlinked q p)

/-- A new OPEN entry in a place of its own comes with the item that links to it. -/
theorem LinksFit.create (fit : LinksFit w o) {e : Entry} {i : OttItem} (place : e.place < Config.windowPlaces)
    (apart : ∀ f ∈ w, f.place ≠ e.place) (isOpen : e.isOpen = true) (link : i.link = .entry e.seq e.place) :
    LinksFit (w ++ [e]) (o ++ [i]) where
  places := by
    rw [List.map_append, List.nodup_append]
    refine ⟨fit.places, List.nodup_singleton _, fun p mem q single => ?_⟩
    obtain ⟨f, inside, rfl⟩ := List.mem_map.1 mem
    rw [List.mem_singleton.1 single]
    exact apart f inside
  range f mem := by
    obtain old | new := List.mem_append.1 mem
    · exact fit.range f old
    · exact List.mem_singleton.1 new ▸ place
  links f mem := by
    rw [List.countP_append, List.countP_singleton]
    obtain old | new := List.mem_append.1 mem
    · have other : ¬ f.namedBy i.link = true := by
        rw [Entry.namedBy_eq_true, link, Link.entry.injEq]
        exact fun same => apart f old same.2.symm
      rw [if_neg other, fit.links f old]
      rfl
    · rw [List.mem_singleton.1 new, if_pos (Entry.namedBy_eq_true.2 link), if_pos isOpen]
      refine congrArg (· + 1) (List.countP_eq_zero.2 (fun j mem named => ?_))
      obtain ⟨g, inside, -, same⟩ := fit.known j mem _ _ (Entry.namedBy_eq_true.1 named)
      exact apart g inside same
  known j mem q p named := by
    obtain old | new := List.mem_append.1 mem
    · obtain ⟨f, inside, which⟩ := fit.known j old q p named
      exact ⟨f, List.mem_append_left _ inside, which⟩
    · rw [List.mem_singleton.1 new, link, Link.entry.injEq] at named
      exact ⟨e, List.mem_append_right _ List.mem_cons_self, named⟩

/-! ### An item and its entry part (R14, R113) -/

/-- The removal of an item, with the entry it links to closed. -/
theorem LinksFit.settle {older newer : List OttItem} {item : OttItem} (fit : LinksFit w (older ++ item :: newer))
    {close : Entry → Entry} (seq : ∀ e, (close e).seq = e.seq) (place : ∀ e, (close e).place = e.place)
    (closed : ∀ e, (close e).isOpen = false) :
    LinksFit (w.map (fun e => if e.namedBy item.link then close e else e)) (older ++ newer) := by
  have seq (e : Entry) : (if e.namedBy item.link then close e else e).seq = e.seq := by split <;> simp only [seq]
  have place (e : Entry) : (if e.namedBy item.link then close e else e).place = e.place := by split <;> simp only [place]
  have namedBy (e : Entry) (l : Link) : (if e.namedBy item.link then close e else e).namedBy l = e.namedBy l := by
    rw [Entry.namedBy, seq, place, ← Entry.namedBy]
  refine ⟨?_, fun g mem => ?_, fun g mem => ?_, fun i mem q p link => ?_⟩
  · rw [map_place_map place]
    exact fit.places
  · obtain ⟨e, inside, rfl⟩ := List.mem_map.1 mem
    exact place e ▸ fit.range e inside
  · obtain ⟨e, inside, rfl⟩ := List.mem_map.1 mem
    have before := fit.links e inside
    simp only [namedBy]
    rw [List.countP_append, List.countP_cons] at before
    rw [List.countP_append]
    by_cases named : e.namedBy item.link = true
    · rw [if_pos named] at before
      simp only [if_pos named, closed, Bool.false_eq_true, if_false]
      split at before
      · omega
      · omega
    · rw [if_neg named] at before
      simp only [if_neg named]
      exact before
  · have there : i ∈ older ++ item :: newer := by
      obtain old | new := List.mem_append.1 mem
      · exact List.mem_append_left _ old
      · exact List.mem_append_right _ (List.mem_cons_of_mem _ new)
    obtain ⟨e, inside, which⟩ := fit.known i there q p link
    exact ⟨_, List.mem_map_of_mem inside, (seq e).trans which.1, (place e).trans which.2⟩

/-! ### An entry leaves (R16) -/

/-- The item that links to a leaving entry has its link EXPIRED. -/
def detached (o : List OttItem) (e : Entry) : List OttItem :=
  o.map (fun i => if e.namedBy i.link then { i with link := .expired } else i)

theorem State.detach_ott (s : State) (e : Entry) : (s.detach e).ott = detached s.ott e := rfl

/-- An entry leaves the window, OPEN with its item detached. -/
theorem LinksFit.leave {e : Entry} (fit : LinksFit (e :: w) o) : LinksFit w (if e.isOpen then detached o e else o) := by
  obtain ⟨once, places⟩ := List.nodup_cons.1 fit.places
  have still (f : Entry) (mem : f ∈ w) : (detached o e).countP (fun i => f.namedBy i.link)
      = o.countP (fun i => f.namedBy i.link) := by
    rw [detached, List.countP_map]
    refine List.countP_congr (fun i _ => ?_)
    show f.namedBy (OttItem.link (if _ then _ else _)) = true ↔ _
    split
    next leaves =>
      rw [Entry.namedBy_eq_true] at leaves
      simp only [Entry.namedBy_eq_true, leaves, reduceCtorEq, false_iff, Link.entry.injEq, not_and]
      exact fun _ same => once (List.mem_map.2 ⟨f, mem, same.symm⟩)
    next => rfl
  have inner {i : OttItem} (mem : i ∈ o) (other : ¬ e.namedBy i.link = true) {q : Word} {p : Nat}
      (link : i.link = .entry q p) : ∃ f ∈ w, f.seq = q ∧ f.place = p := by
    obtain ⟨f, inside, which⟩ := fit.known i mem q p link
    obtain rfl | inside := List.mem_cons.1 inside
    · exact absurd (by rw [link, Entry.namedBy_iff]; exact which) other
    · exact ⟨f, inside, which⟩
  have range := fun f mem => fit.range f (List.mem_cons_of_mem e mem)
  have links := fun f mem => fit.links f (List.mem_cons_of_mem e mem)
  split
  next isOpen =>
    refine ⟨places, range, fun f mem => (still f mem).trans (links f mem), fun j mem q p link => ?_⟩
    obtain ⟨i, inside, rfl⟩ := List.mem_map.1 mem
    split at link
    next => exact Link.noConfusion link
    next other => exact inner inside other link
  next closed =>
    have none : o.countP (fun i => e.namedBy i.link) = 0 := by rw [fit.links e List.mem_cons_self, if_neg closed]
    exact ⟨places, range, links, fun i mem q p link => inner mem (List.countP_eq_zero.1 none i mem) link⟩

end

/-! ### The window's operations -/

section

variable {s t : State}

theorem LinksSound.frame (sound : LinksSound s) (window : t.window = s.window) (ott : t.ott = s.ott) : LinksSound t := by
  rw [linksSound_iff] at sound ⊢
  exact window ▸ ott ▸ sound

/-- Marks are no matter of the links. -/
theorem LinksSound.marks (sound : LinksSound s) (window : t.bareWindow = s.bareWindow) (ott : t.ott = s.ott) :
    LinksSound t := by
  have bare {w : List Entry} {o : List OttItem} : LinksFit (w.map Entry.bare) o ↔ LinksFit w o :=
    linksFit_map_iff (fun _ => rfl) (fun _ => rfl) (fun _ => rfl)
  rw [linksSound_iff, ← bare] at sound ⊢
  rw [ott, show t.window.map Entry.bare = s.window.map Entry.bare from window]
  exact sound

theorem State.expireEntry_ott (s : State) (e : Entry) :
    (s.expireEntry e).ott = if e.isOpen then detached s.ott e else s.ott := by
  unfold State.expireEntry
  dsimp only
  split
  · rw [State.detach_ott, foldl_offerRecord_eq]
  · rw [foldl_offerRecord_eq]

/-- Entries leave one after another. -/
theorem linksFit_foldl_expireEntry {w : List Entry} (leaving : List Entry) {s : State}
    (fit : LinksFit (leaving ++ w) s.ott) : LinksFit w (leaving.foldl State.expireEntry s).ott := by
  induction leaving generalizing s with
  | nil => exact fit
  | cons e rest ih =>
    refine ih ?_
    rw [State.expireEntry_ott]
    exact fit.leave

theorem LinksSound.expire (sound : LinksSound s) (h : Tick) : LinksSound (s.expire h) := by
  rw [linksSound_iff, State.expire_window]
  rw [linksSound_iff] at sound
  exact linksFit_foldl_expireEntry _ (sound.perm (List.filter_append_perm _ s.window))

theorem LinksSound.report (sound : LinksSound s) (h : Tick) : LinksSound (s.report h) := by
  rw [State.report_eq]
  exact sound.frame rfl rfl

theorem LinksSound.moveHorizon (sound : LinksSound s) : LinksSound s.moveHorizon := by
  unfold State.moveHorizon
  refine LinksSound.report (LinksSound.expire ?_ _) _
  exact sound.frame rfl rfl

theorem LinksSound.drainTest (sound : LinksSound s) : LinksSound s.drainTest := by
  rw [State.drainTest_eq]
  exact sound.frame rfl rfl

theorem OttItem.unlink_link_ne (i : OttItem) (q : Word) (p : Nat) : i.unlink.link ≠ .entry q p := by
  unfold OttItem.unlink
  split
  · exact Link.noConfusion
  next none => rw [none]; exact Link.noConfusion
  next expired => rw [expired]; exact Link.noConfusion

theorem linksSound_flushWindow (s : State) : LinksSound s.flushWindow := by
  rw [linksSound_iff, State.flushWindow, foldl_chargeFlush_eq]
  refine linksFit_nil (fun i mem => ?_)
  obtain ⟨j, -, rfl⟩ := List.mem_map.1 mem
  exact j.unlink_link_ne

/-- MRST empties the table and closes every OPEN entry (R23). -/
theorem LinksFit.abandon {w : List Entry} {o : List OttItem} (fit : LinksFit w o) :
    LinksFit (w.map Entry.abandon) [] := by
  have place (e : Entry) : e.abandon.place = e.place := by unfold Entry.abandon; split <;> rfl
  have closed (e : Entry) : e.abandon.isOpen = false := by
    unfold Entry.abandon
    split
    · rfl
    next closed => exact Bool.not_eq_true _ ▸ closed
  refine ⟨?_, fun g mem => ?_, fun g mem => ?_, fun i none => absurd none List.not_mem_nil⟩
  · rw [map_place_map place]
    exact fit.places
  · obtain ⟨e, inside, rfl⟩ := List.mem_map.1 mem
    exact place e ▸ fit.range e inside
  · obtain ⟨e, -, rfl⟩ := List.mem_map.1 mem
    rw [closed]
    rfl

/-! ### The acts -/

theorem linksSound_actKept : ActKept LinksSound := by
  intro s t act sound
  cases act with
  | moveHorizon => exact sound.moveHorizon.drainTest
  | discard k => exact sound.marks (s.discard_bareWindow k) (by rw [State.discard_eq])
  | admission a k => exact sound.marks (s.admitInto_bareWindow a k) rfl
  | handOn => rw [State.handOn_eq]; exact LinksSound.drainTest (sound.frame rfl rfl)
  | stop => exact LinksSound.drainTest (sound.frame rfl rfl)
  | reset => exact linksSound_iff.2 (linksFit_nil (fun _ none => absurd none List.not_mem_nil))
  | mrst => exact linksSound_iff.2 (linksSound_iff.1 sound).abandon
  | flush selection =>
    refine (kept_flushSelected LinksSound sound (fun t _ => linksSound_flushWindow t) (fun t sound => ?_)
      (fun t sound => ?_) (fun t sound => ?_) (fun t sound => sound.frame rfl rfl) selection).drainTest
    · exact sound.marks t.flushTriggers_bareWindow (by rw [State.flushTriggers_eq])
    · rw [State.flushEvents_eq]
      exact sound.frame rfl rfl
    · rw [State.flushNotices_eq]
      exact sound.frame rfl rfl
  | endItem => rw [State.offer, State.ended_eq]; exact sound.frame rfl rfl
  | rechoose | notice => rw [State.rechoose_eq]; exact sound.frame rfl rfl
  | countThrottle => rw [State.countThrottle_eq]; exact sound.frame rfl rfl
  | writeReg => rw [State.writeReg_eq]; exact sound.frame rfl rfl
  | beginItem => rw [State.beginItem_eq]; exact sound.frame rfl rfl
  | _ => exact sound.frame rfl rfl

/-- What the link of a removed item makes of the window (R14, R115). -/
theorem State.settleLink_window (s : State) (item : OttItem) (ts : List RespTransfer) : (s.settleLink item ts).window =
    s.window.map (fun e => if e.namedBy item.link
      then s.filled e ts (decide ((readBeats ts).length ≠ item.expected)) else e) := by
  unfold State.settleLink
  split
  next q p link => rw [link]; rfl
  next link =>
    simp only [link, Entry.namedBy_expired, Bool.false_eq_true, if_false, List.map_id']
    rfl
  next link => simp only [link, Entry.namedBy_none, Bool.false_eq_true, if_false, List.map_id']

theorem State.newEntry_place (s : State) (r : Request) : (s.newEntry r).place = s.freePlace := by
  simp only [State.newEntry]

theorem linksSound_pathKept : PathKept LinksSound := by
  intro s t act sound
  have fit := linksSound_iff.1 sound
  cases act with
  | openItem r => exact linksSound_iff.2 (fit.append_unlinked (fun _ _ => Link.noConfusion))
  | createEntry r run room =>
    obtain ⟨place, apart⟩ := State.freePlace_spec room
    rw [linksSound_iff]
    rw [← State.newEntry_place s r] at place apart
    exact LinksFit.create fit place apart rfl rfl
  | addMissed => rw [State.addMissed_eq]; exact sound.frame rfl rfl
  | pair item ts head =>
    obtain ⟨holds, older, newer, ott, passed⟩ := List.find?_eq_some_iff_append.1 head
    have removed : withoutHead s.ott (respId ts) = older ++ newer := by
      rw [ott]
      exact withoutHead_append (fun i mem => by simpa using passed i mem) (by simpa using holds)
    rw [linksSound_iff, State.settleLink_window, State.settleLink_eq]
    rw [ott] at fit
    rw [removed]
    exact fit.settle (close := fun e => State.filled _ e ts _) (fun _ => rfl) (fun _ => rfl) (fun _ => rfl)
  | carry => exact sound.frame rfl rfl

end

/-- Settles O58: an entry and the item that links to it come together and part together; marks are no matter of either. -/
theorem stepKeepsLinksSound : Obligations.StepKeepsLinksSound := by
  unfold Obligations.StepKeepsLinksSound
  intro s t ran
  exact step_keeps linksSound_actKept linksSound_pathKept ran

end Sys2Proof.Machine
end

section
/-! The window in time: the horizon stands LATENCY and one behind the tick number, or one tick more while the expiry is owed,
and no window entry and no COLLECTING entry's last tick falls behind it (R3, R4, R16, R28, R29, R39). -/

-- One theorem after another: side by side they ask for more threads than the check's memory limit allows.
set_option Elab.async false

namespace Sys2Proof.Machine

open Sys2Proof

section

variable {s t : State}

/-! ### After a horizon report no COLLECTING entry lies behind the horizon (R39) -/

/-- No COLLECTING entry of the slot has its last tick at or before the horizon. -/
def ReportedAt (h : Tick) (s : State) (k : Slot) : Prop :=
  ∀ l, s.slot k = some l → l.state = .collecting → atOrBefore l.last h = false

theorem ReportedAt.inherits {h : Tick} {k : Slot} (reported : ReportedAt h s k) (kept : Inherits s t) :
    ReportedAt h t k := by
  intro l live collecting
  obtain ⟨m, held, keeps⟩ := kept k l live
  exact keeps.last ▸ reported m held (keeps.collecting collecting)

/-- What is handed on leaves its slot, or stays in it PARKED (R41, R42). -/
theorem State.parked_of_slot_handOn {k : Slot} {l : Live} (live : (s.handOn k).slot k = some l) : l.state = .parked := by
  unfold State.handOn at live
  split at live
  next =>
    unfold State.handOver at live
    split at live
    next free => exact absurd (live.symm.trans free) (Option.some_ne_none l)
    next =>
      rw [State.slot_congr (State.rechoose_slots _), State.slot_setSlot_self] at live
      exact absurd live.symm (Option.some_ne_none l)
  next =>
    unfold State.park at live
    split at live
    next free => exact absurd (live.symm.trans free) (Option.some_ne_none l)
    next =>
      rw [State.slot_setSlot_self] at live
      obtain rfl := Option.some.inj live
      rfl

/-- The end of a collection leaves no COLLECTING entry in the slot (R39). -/
theorem State.not_collecting_of_slot_endCollection {k : Slot} {l : Live} (live : (s.endCollection k).slot k = some l) :
    l.state ≠ .collecting := by
  unfold State.endCollection at live
  split at live
  next free => exact absurd (live.symm.trans free) (Option.some_ne_none l)
  next =>
    dsimp only at live
    split at live
    next =>
      rw [State.slot_setSlot_self] at live
      obtain rfl := Option.some.inj live
      exact EntryState.noConfusion
    next =>
      rw [State.parked_of_slot_handOn live]
      exact EntryState.noConfusion

theorem reportedAt_reportSlot (h : Tick) (s : State) (k : Slot) : ReportedAt h (State.reportSlot h s k) k := by
  intro l live collecting
  unfold State.reportSlot at live
  split at live
  next free => exact absurd (live.symm.trans free) (Option.some_ne_none l)
  next m held =>
    split at live
    next => exact absurd collecting (State.not_collecting_of_slot_endCollection live)
    next stays =>
      obtain rfl := Option.some.inj (held.symm.trans live)
      exact Bool.eq_false_iff.2 (fun reached => stays ⟨collecting, reached⟩)

theorem Inherits.reportSlot (before : Inherits s t) (h : Tick) (k : Slot) : Inherits s (State.reportSlot h t k) := by
  unfold State.reportSlot
  split
  · exact before
  · exact kept_ite (Inherits s) (fun _ => before.endCollection k) (fun _ => before)

theorem reportedAt_report (h : Tick) (s : State) (k : Slot) : ReportedAt h (s.report h) k := by
  have fold (l : List Slot) (turn : k ∈ l) (s : State) : ReportedAt h (l.foldl (State.reportSlot h) s) k := by
    induction l generalizing s with
    | nil => exact absurd turn List.not_mem_nil
    | cons j rest ih =>
      obtain rfl | later := List.mem_cons.1 turn
      · exact (reportedAt_reportSlot h s k).inherits (kept_foldl (Inherits _) (op := State.reportSlot h)
          (fun j kept => kept.reportSlot h j) rest (Inherits.refl _))
      · exact ih later _
  exact fold allSlots (mem_allSlots k) s

theorem reportedAt_moveHorizon (s : State) (k : Slot) :
    ReportedAt (horizonOf s.tick s.regs.latency) s.moveHorizon k := by
  unfold State.moveHorizon
  exact reportedAt_report _ _ k

/-! ### The window's request ticks -/

/-- The request ticks of the window's entries. -/
def State.reqTicks (s : State) : List Tick := s.window.map Entry.reqTick

theorem State.mem_reqTicks {e : Entry} (mem : e ∈ s.window) : e.reqTick ∈ s.reqTicks := List.mem_map_of_mem mem

theorem State.reqTicks_of_bareWindow (same : t.bareWindow = s.bareWindow) : t.reqTicks = s.reqTicks := by
  have := congrArg (List.map Entry.reqTick) same
  rw [State.bareWindow, State.bareWindow, List.map_map, List.map_map] at this
  exact this

theorem map_reqTick_map {w : List Entry} {f : Entry → Entry} (reqTick : ∀ e, (f e).reqTick = e.reqTick) :
    (w.map f).map Entry.reqTick = w.map Entry.reqTick := by
  rw [List.map_map]
  exact List.map_congr_left (fun e _ => reqTick e)

/-! ### What the invariant says of a tick -/

/-- The tick lies later than the horizon, and at most as far as the tick number and `more` ticks. -/
def State.within (s : State) (more : Nat) (x : Tick) : Prop :=
  1 ≤ (x - s.horizon).toNat ∧ (x - s.horizon).toNat ≤ (s.tick - s.horizon).toNat + more

/-- The horizon stands at R3's value, or one behind it while the expiry is owed (R3, R16). -/
def State.horizonStands (s : State) : Prop :=
  s.horizon = horizonOf s.tick s.regs.latency ∨
    (s.owed.horizon = true ∧ s.horizon + 1 = horizonOf s.tick s.regs.latency)

/-- `InTime`, clause by clause. -/
structure WindowTimed (s : State) : Prop where
  stands : s.horizonStands
  entries : ∀ x ∈ s.reqTicks, s.within 0 x
  ranges : ∀ k l, s.slot k = some l → l.state = .collecting → s.within 7 l.last

theorem inTime_iff : InTime s ↔ WindowTimed s := by
  have entries : (∀ e ∈ s.window, s.within 0 e.reqTick) ↔ ∀ x ∈ s.reqTicks, s.within 0 x := by
    rw [State.reqTicks, List.forall_mem_map]
  exact ⟨fun ⟨stands, window, ranges⟩ => ⟨stands, entries.1 window, ranges⟩,
    fun ⟨stands, window, ranges⟩ => ⟨stands, entries.2 window, ranges⟩⟩

/-- LATENCY's range (11.1). -/
theorem SettingsLegal.latency (legal : SettingsLegal s) : 8 ≤ s.regs.latency.toNat ∧ s.regs.latency.toNat ≤ 1023 := by
  have range : (8 ≤ s.regs.latency && s.regs.latency ≤ 1023) = true := legal .latency rfl
  simp only [Bool.and_eq_true, decide_eq_true_eq] at range
  exact ⟨range.1, range.2⟩

/-- How far the horizon lies behind the tick number. -/
theorem SettingsLegal.depth (legal : SettingsLegal s) (stands : s.horizonStands) :
    s.regs.latency.toNat + 1 ≤ (s.tick - s.horizon).toNat ∧ (s.tick - s.horizon).toNat ≤ s.regs.latency.toNat + 2 ∧
      (s.owed.horizon = false → (s.tick - s.horizon).toNat = s.regs.latency.toNat + 1) := by
  obtain ⟨low, high⟩ := legal.latency
  have width : (s.regs.latency.setWidth 24).toNat = s.regs.latency.toNat := by
    rw [BitVec.toNat_setWidth]
    omega
  unfold State.horizonStands horizonOf at stands
  generalize s.regs.latency.setWidth 24 = d at width stands
  obtain here | ⟨owed, behind⟩ := stands
  · have : (s.tick - s.horizon).toNat = s.regs.latency.toNat + 1 := by bv_omega
    omega
  · have : (s.tick - s.horizon).toNat = s.regs.latency.toNat + 2 := by bv_omega
    exact ⟨by omega, by omega, fun settled => Bool.noConfusion (settled.symm.trans owed)⟩

/-- What moves no clock, adds nothing to the window and makes nothing COLLECTING keeps the window in timed. -/
theorem WindowTimed.mono (timed : WindowTimed s) (tick : t.tick = s.tick) (horizon : t.horizon = s.horizon)
    (latency : t.regs.latency = s.regs.latency) (owed : t.owed.horizon = s.owed.horizon)
    (window : t.reqTicks ⊆ s.reqTicks) (slots : Inherits s t) : WindowTimed t := by
  obtain ⟨stands, ahead, collecting⟩ := timed
  have within (more : Nat) (x : Tick) : t.within more x ↔ s.within more x := by
    unfold State.within
    rw [tick, horizon]
  refine ⟨?_, fun x mem => (within 0 x).2 (ahead x (window mem)), fun k l live state => ?_⟩
  · unfold State.horizonStands
    rw [tick, horizon, latency, owed]
    exact stands
  · obtain ⟨m, held, keeps⟩ := slots k l live
    rw [within, keeps.last]
    exact collecting k m held (keeps.collecting state)

theorem WindowTimed.frame (timed : WindowTimed s) (tick : t.tick = s.tick) (horizon : t.horizon = s.horizon)
    (regs : t.regs = s.regs) (owed : t.owed = s.owed) (window : t.window = s.window) (slots : t.slots = s.slots) :
    WindowTimed t :=
  timed.mono tick horizon (congrArg _ regs) (congrArg _ owed)
    (List.Perm.of_eq (congrArg (List.map Entry.reqTick) window)).subset
    ((Inherits.refl s).frame slots)

theorem WindowTimed.drainTest (timed : WindowTimed s) : WindowTimed s.drainTest := by
  rw [State.drainTest_eq]
  exact timed.frame rfl rfl rfl rfl rfl rfl

/-! ### The clock's acts -/

/-- A tick, once the expiry of the one before is taken: the horizon falls one tick more behind (R2). -/
theorem WindowTimed.advanceTick (timed : WindowTimed s) (legal : SettingsLegal s) (taken : s.owed.horizon = false) :
    WindowTimed s.advanceTick := by
  obtain ⟨stands, ahead, collecting⟩ := timed
  obtain ⟨low, high⟩ := legal.latency
  obtain ⟨-, -, depth⟩ := legal.depth stands
  have depth := depth taken
  have later {more : Nat} {x : Tick} (within : s.within more x) : s.advanceTick.within more x := by
    refine ⟨within.1, within.2.trans (Nat.add_le_add_right ?_ more)⟩
    show (s.tick - s.horizon).toNat ≤ (s.tick + 1 - s.horizon).toNat
    bv_omega
  refine ⟨.inr ⟨rfl, ?_⟩, fun x mem => later (ahead x mem), fun k l live state => later ?_⟩
  · show s.horizon + 1 = horizonOf (s.tick + 1) s.regs.latency
    have here : s.horizon = horizonOf s.tick s.regs.latency :=
      stands.resolve_right (fun owed => Bool.noConfusion (taken.symm.trans owed.1))
    rw [here]
    unfold horizonOf
    bv_omega
  · exact collecting k l live state

/-- A tick not at or before the horizon's new value lies as far ahead of it as it may (R16). -/
theorem State.within_of_not_atOrBefore (legal : SettingsLegal s) (stands : s.horizonStands) {more : Nat} (few : more ≤ 7)
    {x : Tick} (within : s.within more x) (ahead : atOrBefore x (horizonOf s.tick s.regs.latency) = false) {u : State}
    (tick : u.tick = s.tick) (horizon : u.horizon = horizonOf s.tick s.regs.latency) : u.within more x := by
  obtain ⟨low, high⟩ := legal.latency
  obtain ⟨deep, shallow, -⟩ := legal.depth stands
  obtain ⟨after, before⟩ := within
  unfold State.within
  rw [tick, horizon]
  unfold atOrBefore at ahead
  rw [decide_eq_false_iff_not] at ahead
  unfold State.horizonStands at stands
  generalize horizonOf s.tick s.regs.latency = h at stands ahead
  obtain here | ⟨-, behind⟩ := stands
  · rw [← here]
    exact ⟨after, before⟩
  · bv_omega

/-- The window's action at a tick (R16, R39). -/
theorem WindowTimed.moveHorizon (timed : WindowTimed s) (legal : SettingsLegal s) : WindowTimed s.moveHorizon := by
  obtain ⟨stands, ahead, collecting⟩ := timed
  have tick : s.moveHorizon.tick = s.tick := by rw [State.moveHorizon_eq]
  have horizon : s.moveHorizon.horizon = horizonOf s.tick s.regs.latency := by rw [State.moveHorizon_eq]
  have regs : s.moveHorizon.regs = s.regs := by rw [State.moveHorizon_eq]
  refine ⟨.inl (by rw [horizon, tick, regs]), fun x mem => ?_, fun k l live state => ?_⟩
  · obtain ⟨e, inside, rfl⟩ := List.mem_map.1 mem
    rw [State.moveHorizon_window, List.mem_filter, Bool.not_eq_true'] at inside
    exact State.within_of_not_atOrBefore legal stands (Nat.zero_le 7) (ahead _ (State.mem_reqTicks inside.1)) inside.2 tick
      horizon
  · obtain ⟨m, held, keeps⟩ := (Inherits.refl s).moveHorizon k l live
    have reported := reportedAt_moveHorizon s k l live state
    rw [keeps.last] at reported ⊢
    exact State.within_of_not_atOrBefore legal stands le_rfl (collecting k m held (keeps.collecting state)) reported tick
      horizon

/-! ### What joins -/

/-- A request taken now lies in time (R5). -/
theorem SettingsLegal.within_now (legal : SettingsLegal s) (stands : s.horizonStands) : s.within 0 s.tick := by
  obtain ⟨deep, -, -⟩ := legal.depth stands
  exact ⟨by omega, le_rfl⟩

/-- The last tick of an arrival's range lies in time (R28, R29). -/
theorem Arrival.Legal.within_last {a : Arrival} (arrives : a.Legal s) (legal : SettingsLegal s) (stands : s.horizonStands) :
    s.within 7 (lastOf a.first a.span) := by
  obtain ⟨low, high⟩ := legal.latency
  obtain ⟨deep, shallow, -⟩ := legal.depth stands
  obtain ⟨least, most⟩ := arrives.span legal
  have span : (BitVec.ofNat 24 a.span).toNat = a.span := by
    rw [BitVec.toNat_ofNat]
    omega
  have width : (s.regs.latency.setWidth 24).toNat = s.regs.latency.toNat := by
    rw [BitVec.toNat_setWidth]
    omega
  unfold State.within lastOf
  obtain past | ⟨pre, fits, first⟩ := arrives.first legal
  · rw [past, State.pastFirst]
    bv_omega
  · rw [first]
    have : (BitVec.ofNat 24 pre).toNat = pre := by
      rw [BitVec.toNat_ofNat]
      omega
    bv_omega

theorem WindowTimed.admitInto (timed : WindowTimed s) (legal : SettingsLegal s) {a : Arrival} (arrives : a.Legal s) (k : Slot) :
    WindowTimed (s.admitInto a k) := by
  obtain ⟨stands, ahead, collecting⟩ := timed
  refine ⟨stands, fun x mem => ahead x ?_, fun j l live state => ?_⟩
  · rwa [State.reqTicks_of_bareWindow (s.admitInto_bareWindow a k)] at mem
  · by_cases here : j = k
    · obtain rfl := Option.some.inj ((here ▸ live).symm.trans (s.slot_admitInto_self a k))
      exact arrives.within_last legal stands
    · exact collecting j l ((s.slot_admitInto_ne a here).symm.trans live) state

/-! ### LATENCY is written in OFF only (R3, R160) -/

theorem Settings.put_latency_of_ne (g : Settings) {r : Reg} (v : Word) (other : r ≠ .latency) :
    (g.put r v).latency = g.latency := by
  cases r with
  | latency => exact absurd rfl other
  | _ => rfl

theorem WindowTimed.writeReg (timed : WindowTimed s) (off : OffIsEmpty s) (n : Byte) (v : Word) :
    WindowTimed (s.writeReg n v) := by
  obtain same | ⟨r, -, -, locked, written⟩ := s.writeReg_cases n v
  · rw [same]
    exact timed
  rw [written]
  by_cases which : r = .latency
  · subst which
    obtain ⟨empty, free⟩ := off (locked rfl)
    refine ⟨.inl rfl, fun x mem => ?_, fun k l live => ?_⟩
    · have none : s.reqTicks = [] := by rw [State.reqTicks, empty]; rfl
      exact absurd (none ▸ mem) List.not_mem_nil
    · exact absurd (live.symm.trans (free k)) (Option.some_ne_none l)
  · have put : WindowTimed { s with regs := s.regs.put r v } :=
      timed.mono rfl rfl (s.regs.put_latency_of_ne v which) rfl (List.Subset.refl _) ((Inherits.refl s).frame rfl)
    unfold State.applyWrite
    split
    · exact absurd rfl which
    · rw [State.rechoose_eq]; exact put.frame rfl rfl rfl rfl rfl rfl
    · rw [State.rechoose_eq]; exact put.frame rfl rfl rfl rfl rfl rfl
    · exact put

/-! ### The acts -/

theorem windowTimed_reset : WindowTimed State.reset :=
  ⟨.inl (by decide), fun _ mem => absurd mem List.not_mem_nil,
    fun k l live => absurd (live.symm.trans (State.slot_reset k)) (Option.some_ne_none l)⟩

theorem Entry.abandon_reqTick (e : Entry) : e.abandon.reqTick = e.reqTick := by
  unfold Entry.abandon
  split <;> rfl

theorem WindowTimed.flushSelected (timed : WindowTimed s) (selection : Byte) : WindowTimed (s.flushSelected selection) := by
  refine kept_flushSelected WindowTimed timed (fun t timed => ?_) (fun t timed => ?_) (fun t timed => ?_)
    (fun t timed => ?_) (fun t timed => timed.frame rfl rfl rfl rfl rfl rfl) selection
  · have none : t.flushWindow.reqTicks = [] := by rw [State.reqTicks, State.flushWindow, foldl_chargeFlush_eq]; rfl
    have fewer : t.flushWindow.reqTicks ⊆ t.reqTicks := by rw [none]; exact List.nil_subset _
    have slots := (Inherits.refl t).flushWindow
    rw [State.flushWindow_eq] at fewer slots ⊢
    exact timed.mono rfl rfl rfl rfl fewer slots
  · have marks := State.reqTicks_of_bareWindow t.flushTriggers_bareWindow
    have slots : Inherits t t.flushTriggers := inherits_of_free t.slot_flushTriggers
    rw [State.flushTriggers_eq] at marks slots ⊢
    exact timed.mono rfl rfl rfl rfl (List.Perm.of_eq marks).subset slots
  · have slots := (Inherits.refl t).flushEvents
    rw [State.flushEvents_eq] at slots ⊢
    exact timed.mono rfl rfl rfl rfl (List.Subset.refl _) slots
  · rw [State.flushNotices_eq]
    exact timed.frame rfl rfl rfl rfl rfl rfl

/-- The state's settings are legal, it is empty in OFF, and its window is in timed. -/
def TimeInvariant (s : State) : Prop := SettingsLegal s ∧ OffIsEmpty s ∧ WindowTimed s

theorem timeInvariant_actKept : ActKept TimeInvariant := by
  intro s t act kept
  refine ⟨settingsLegal_actKept act kept.1, offIsEmpty_actKept act kept.2.1, ?_⟩
  obtain ⟨legal, off, timed⟩ := kept
  have same := Inherits.refl s
  cases act with
  | tick taken => exact timed.advanceTick legal taken
  | moveHorizon => exact (timed.moveHorizon legal).drainTest
  | admission a k arrives => exact timed.admitInto legal arrives k
  | writeReg n v => exact timed.writeReg off n v
  | reset => exact windowTimed_reset.frame rfl rfl rfl rfl rfl rfl
  | flush selection => exact (timed.flushSelected selection).drainTest
  | discard k =>
    have marks := State.reqTicks_of_bareWindow (s.discard_bareWindow k)
    have slots := same.discard k
    rw [State.discard_eq] at marks slots ⊢
    exact timed.mono rfl rfl rfl rfl (List.Perm.of_eq marks).subset slots
  | confirm k l live =>
    exact timed.mono rfl rfl rfl rfl (List.Subset.refl _) (same.shape (State.shape_setSlot_of_eq live rfl))
  | handOn k =>
    have slots := same.handOn k
    rw [State.handOn_eq] at slots ⊢
    exact WindowTimed.drainTest (timed.mono rfl rfl rfl rfl (List.Subset.refl _) slots)
  | stop => exact WindowTimed.drainTest (timed.frame rfl rfl rfl rfl rfl rfl)
  | endItem item =>
    have slots := Inherits.ended (t := { s with framer := .idle }) (same.frame rfl) item
    rw [State.ended_eq] at slots ⊢
    exact timed.mono rfl rfl rfl rfl (List.Subset.refl _) (slots.frame rfl)
  | mrst =>
    exact timed.mono rfl rfl rfl rfl (List.Perm.of_eq (map_reqTick_map Entry.abandon_reqTick)).subset (same.frame rfl)
  | aside _ _ _ _ _ _ owed _ _ _ _ _ _ _ _ _ horizon =>
    exact timed.mono rfl rfl rfl horizon (List.Subset.refl _) (same.frame rfl)
  | countThrottle =>
    have horizon := s.countThrottle_owed_horizon
    rw [State.countThrottle_eq] at horizon ⊢
    exact timed.mono rfl rfl rfl horizon (List.Subset.refl _) (same.frame rfl)
  | rechoose | notice => rw [State.rechoose_eq]; exact timed.frame rfl rfl rfl rfl rfl rfl
  | beginItem => rw [State.beginItem_eq]; exact timed.frame rfl rfl rfl rfl rfl rfl
  | _ => exact timed.frame rfl rfl rfl rfl rfl rfl

theorem timeInvariant_pathKept : PathKept TimeInvariant := by
  intro s t act kept
  refine ⟨settingsLegal_pathKept act kept.1, offIsEmpty_pathKept act kept.2.1, ?_⟩
  obtain ⟨legal, off, timed⟩ := kept
  have same := Inherits.refl s
  cases act with
  | createEntry r =>
    obtain ⟨stands, ahead, collecting⟩ := timed
    refine ⟨stands, fun x mem => ?_, collecting⟩
    obtain ⟨e, inside, rfl⟩ := List.mem_map.1 mem
    obtain old | new := List.mem_append.1 inside
    · exact ahead _ (State.mem_reqTicks old)
    · rw [List.mem_singleton.1 new]
      exact legal.within_now stands
  | addMissed n k =>
    have slots := same.addMissed n k
    rw [State.addMissed_eq] at slots ⊢
    exact timed.mono rfl rfl rfl rfl (List.Subset.refl _) slots
  | pair item ts =>
    have ticks (u : State) : (u.settleLink item ts).reqTicks = u.reqTicks := by
      rw [State.reqTicks, State.settleLink_window]
      exact map_reqTick_map (fun e => by split <;> rfl)
    have ticks := ticks { s with ott := withoutHead s.ott (respId ts) }
    rw [State.settleLink_eq] at ticks ⊢
    exact timed.mono rfl rfl rfl rfl (List.Perm.of_eq ticks).subset (same.frame rfl)
  | _ => exact timed.frame rfl rfl rfl rfl rfl rfl

end

/-- Settles O59: a tick moves the horizon one tick behind its value, the expiry moves it back and takes what it reaches, and
what joins lies ahead of it. -/
theorem stepKeepsTheWindowInTime : Obligations.StepKeepsTheWindowInTime := by
  unfold Obligations.StepKeepsTheWindowInTime
  intro s t ran legal off time
  obtain ⟨-, -, after⟩ := step_keeps timeInvariant_actKept timeInvariant_pathKept ran ⟨legal, off, inTime_iff.1 time⟩
  exact inTime_iff.2 after

end Sys2Proof.Machine
end

section
/-! Marks: an entry is marked for a slot while the slot collects with a range that holds the entry's request tick; where a slot
ends its collection or is freed, no entry carries its mark any more (R18 to R21, R39). -/

-- One theorem after another: side by side they ask for more threads than the check's memory limit allows.
set_option Elab.async false

namespace Sys2Proof.Machine

open Sys2Proof

section

variable {s t : State}

/-! ### The slots that a hand-on and a report leave -/

theorem State.slot_handOver_ne (s : State) {j k : Slot} (other : j ≠ k) : (s.handOver k).slot j = s.slot j := by
  unfold State.handOver
  split
  · rfl
  · rw [State.slot_congr (State.rechoose_slots _), State.slot_setSlot_ne _ _ other]
    rfl

theorem State.slot_park_ne (s : State) {j k : Slot} (other : j ≠ k) : (s.park k).slot j = s.slot j := by
  unfold State.park
  split
  · rfl
  · rw [State.slot_setSlot_ne _ _ other]
    rfl

theorem State.slot_handOn_ne (s : State) {j k : Slot} (other : j ≠ k) : (s.handOn k).slot j = s.slot j :=
  kept_ite (fun t => t.slot j = s.slot j) (fun _ => s.slot_handOver_ne other) (fun _ => s.slot_park_ne other)

theorem State.slot_endCollection_ne (s : State) {j k : Slot} (other : j ≠ k) : (s.endCollection k).slot j = s.slot j := by
  unfold State.endCollection
  split
  · rfl
  · have closed (o : Option Live) : (s.setSlot k o).slot j = s.slot j := s.slot_setSlot_ne o other
    exact kept_ite (fun t => t.slot j = s.slot j) (fun _ => closed _)
      (fun _ => (State.slot_handOn_ne _ other).trans (closed _))

/-- A report leaves a slot whose collection it does not end (R39). -/
theorem State.slot_report_of_stays {k : Slot} {h : Tick}
    (stays : ∀ l, s.slot k = some l → l.state = .collecting → atOrBefore l.last h = false) :
    (s.report h).slot k = s.slot k := by
  refine kept_foldl (fun t => t.slot k = s.slot k) (op := State.reportSlot h) (fun {t} j same => ?_) allSlots rfl
  unfold State.reportSlot
  split
  next => exact same
  next l live =>
    refine kept_ite (fun t => t.slot k = s.slot k) (fun ends => ?_) (fun _ => same)
    have other : k ≠ j := by
      rintro rfl
      exact Bool.noConfusion ((stays l (same.symm.trans live) ends.1).symm.trans ends.2)
    exact (t.slot_endCollection_ne other).trans same

/-! ### Marks and their slots -/

/-- The slot is COLLECTING with a range that holds the tick. -/
def CollectsAt (s : State) (k : Slot) (x : Tick) : Prop := ∃ l, s.slot k = some l ∧ l.collects x = true

theorem Live.collects_iff {l : Live} {x : Tick} :
    l.collects x = true ↔ l.state = .collecting ∧ inRange x l.first l.last = true := by
  rw [Live.collects, Bool.and_eq_true, beq_iff_eq]

theorem CollectsAt.congr {k : Slot} {x : Tick} (same : t.shape k = s.shape k) (collects : CollectsAt s k x) :
    CollectsAt t k x := by
  obtain ⟨l, live, collects⟩ := collects
  obtain ⟨m, held, eq⟩ := State.live_of_shape_eq same.symm live
  refine ⟨m, held, ?_⟩
  rwa [Live.collects, Live.state_of_shape_eq eq, Live.first_of_shape_eq eq, Live.last_of_shape_eq eq]

/-- No entry of the window carries the slot's mark. -/
def State.unmarked (s : State) (k : Slot) : Prop := ∀ e ∈ s.window, k ∉ e.marks

/-- The slot is not COLLECTING. -/
def State.idle (s : State) (k : Slot) : Prop := ∀ l, s.slot k = some l → l.state ≠ .collecting

theorem State.idle.inherits {k : Slot} (idle : s.idle k) (kept : Inherits s t) : t.idle k := by
  intro l live collecting
  obtain ⟨m, held, keeps⟩ := kept k l live
  exact idle m held (keeps.collecting collecting)

theorem State.idle_of_isParked {k : Slot} (parked : s.isParked k) : s.idle k := by
  obtain ⟨m, held, state⟩ := parked
  intro l live collecting
  obtain rfl := Option.some.inj (live.symm.trans held)
  exact EntryState.noConfusion (collecting.symm.trans state)

theorem State.idle_of_live {k : Slot} {l : Live} (live : s.slot k = some l) (other : l.state ≠ .collecting) : s.idle k := by
  intro m held
  obtain rfl := Option.some.inj (live.symm.trans held)
  exact other

theorem MarksSound.unmarked_of_idle (sound : MarksSound s) {k : Slot} (idle : s.idle k) : s.unmarked k := by
  intro e mem mark
  obtain ⟨l, live, collects⟩ := sound e mem k mark
  exact idle l live (Live.collects_iff.1 collects).1

/-- What adds no mark and leaves the shape of each slot keeps marks sound. -/
theorem MarksSound.mono (sound : MarksSound s)
    (marks : ∀ e ∈ t.window, ∃ f ∈ s.window, f.reqTick = e.reqTick ∧ e.marks ⊆ f.marks)
    (shape : ∀ k, t.shape k = s.shape k) : MarksSound t := by
  intro e mem k mark
  obtain ⟨f, inside, tick, more⟩ := marks e mem
  exact tick ▸ CollectsAt.congr (shape k) (sound f inside k (more mark))

theorem MarksSound.frame (sound : MarksSound s) (window : t.window = s.window) (slots : t.slots = s.slots) :
    MarksSound t :=
  sound.mono (fun e mem => ⟨e, window ▸ mem, rfl, List.Subset.refl _⟩) (State.shape_congr slots)

/-- A slot whose mark no entry carries may be rewritten. -/
theorem MarksSound.setSlot (sound : MarksSound s) {k : Slot} (unmarked : s.unmarked k) (o : Option Live) :
    MarksSound (s.setSlot k o) := by
  intro e mem j mark
  have other : j ≠ k := fun same => unmarked e mem (same ▸ mark)
  rw [State.slot_setSlot_ne s o other]
  exact sound e mem j mark

theorem mem_marks_unmark {e : Entry} {j k : Slot} : j ∈ (e.unmark k).marks ↔ j ∈ e.marks ∧ j ≠ k := by
  simp only [Entry.unmark, List.mem_filter, bne_iff_ne]

theorem MarksSound.unmarkAll (sound : MarksSound s) (k : Slot) : MarksSound (s.unmarkAll k) := by
  refine sound.mono (fun g mem => ?_) (State.shape_congr rfl)
  obtain ⟨e, inside, rfl⟩ := List.mem_map.1 mem
  exact ⟨e, inside, rfl, fun _ mark => (mem_marks_unmark.1 mark).1⟩

theorem State.unmarked_unmarkAll (s : State) (k : Slot) : (s.unmarkAll k).unmarked k := by
  intro g mem mark
  obtain ⟨e, -, rfl⟩ := List.mem_map.1 mem
  exact (mem_marks_unmark.1 mark).2 rfl

/-- A slot freed with its marks taken away where it is COLLECTING (R21, R60). -/
theorem MarksSound.freeSlot (sound : MarksSound s) {k : Slot} {l : Live} (live : s.slot k = some l) :
    MarksSound ((if l.state = .collecting then s.unmarkAll k else s).setSlot k none) := by
  split
  · exact (sound.unmarkAll k).setSlot (s.unmarked_unmarkAll k) none
  next other => exact sound.setSlot (sound.unmarked_of_idle (State.idle_of_live live other)) none

theorem MarksSound.rechoose (sound : MarksSound s) : MarksSound s.rechoose := by
  rw [State.rechoose_eq]
  exact sound.frame rfl rfl

theorem MarksSound.drainTest (sound : MarksSound s) : MarksSound s.drainTest := by
  rw [State.drainTest_eq]
  exact sound.frame rfl rfl

theorem MarksSound.storeChanged (sound : MarksSound s) : MarksSound s.storeChanged := by
  rw [State.storeChanged_eq]
  exact sound.frame rfl rfl

theorem MarksSound.handOver (sound : MarksSound s) {k : Slot} (idle : s.idle k) : MarksSound (s.handOver k) := by
  unfold State.handOver
  split
  next => exact sound
  next l live =>
    refine MarksSound.rechoose (MarksSound.setSlot (s := { s with queue := s.queue ++ [l.completed] }) ?_ ?_ none)
    · exact sound.frame rfl rfl
    · exact sound.unmarked_of_idle idle

theorem MarksSound.handOn (sound : MarksSound s) {k : Slot} (idle : s.idle k) : MarksSound (s.handOn k) := by
  refine kept_ite MarksSound (fun _ => sound.handOver idle) (fun _ => ?_)
  unfold State.park
  split
  next => exact sound
  next l live =>
    refine MarksSound.setSlot (s := { s with parking := s.parking ++ [k] }) ?_ ?_ _
    · exact sound.frame rfl rfl
    · exact sound.unmarked_of_idle idle

/-- The parking list's slots carry no marks, and serving it takes no other slot (R82). -/
theorem MarksSound.serveParking (sound : MarksSound s) (l : List Slot) (idle : ∀ k ∈ l, s.idle k) :
    MarksSound (serveParking l s) := by
  induction l generalizing s with
  | nil => exact sound
  | cons k rest ih =>
    unfold Machine.serveParking
    split
    · have kept : Inherits s (State.handOver { s with parking := rest } k) := by
        refine Inherits.handOver ?_ k
        exact (Inherits.refl s).frame rfl
      refine ih (MarksSound.handOver (s := { s with parking := rest }) ?_ ?_) (fun j mem => ?_)
      · exact sound.frame rfl rfl
      · exact idle k List.mem_cons_self
      · exact (idle j (List.mem_cons_of_mem k mem)).inherits kept
    · exact sound

theorem MarksSound.placesFreed (sound : MarksSound s) (exact : ParkingExact s) : MarksSound s.placesFreed :=
  sound.serveParking s.parking (fun k mem => State.idle_of_isParked ((exact.2 k).1 mem))

theorem MarksSound.eventLeaves (sound : MarksSound s) (parking : ParkingSound s) : MarksSound s.eventLeaves := by
  unfold State.eventLeaves
  refine MarksSound.drainTest (MarksSound.placesFreed ?_ (parking.exact.congr ?_ (State.shape_congr ?_)))
  · exact sound.frame rfl rfl
  · rfl
  · rfl

theorem MarksSound.flushEvents (sound : MarksSound s) (parking : ParkingSound s) : MarksSound s.flushEvents := by
  unfold State.flushEvents
  refine MarksSound.rechoose (MarksSound.placesFreed (MarksSound.storeChanged ?_)
    (parking.exact.congr ?_ (State.shape_congr ?_)))
  · exact sound.frame rfl rfl
  · rw [State.storeChanged_parking]
  · rw [State.storeChanged_slots]

theorem MarksSound.ended (sound : MarksSound s) (parking : ParkingSound s) (item : Item) : MarksSound (s.ended item) := by
  cases item with
  | eventHeader h => exact kept_ite MarksSound (fun _ => sound.eventLeaves parking) (fun _ => sound)
  | record r o a =>
    have freed : MarksSound s.freeRecord := sound.frame (by rw [State.freeRecord_eq]) (by rw [State.freeRecord_eq])
    have waits : ParkingSound s.freeRecord := by
      have length := length_dropHeadRecord s.queue
      rw [← State.freeRecord_queue] at length
      rw [State.freeRecord_eq] at length ⊢
      exact parking.congr (queue := length.ge)
    exact kept_ite MarksSound (fun _ => freed.eventLeaves waits) (fun _ => freed)
  | _ => exact sound.frame rfl rfl

/-! ### FLUSH (R22, R48) -/

theorem marksSound_of_empty (window : s.window = []) : MarksSound s :=
  fun _ mem => absurd (window ▸ mem) List.not_mem_nil

theorem MarksSound.flushTriggers (sound : MarksSound s) : MarksSound s.flushTriggers := by
  unfold State.flushTriggers
  have flushed : MarksSound (allSlots.foldl State.flushSlot s) := by
    refine kept_foldl MarksSound (op := State.flushSlot) (fun {t} k sound => ?_) allSlots sound
    unfold State.flushSlot
    split
    next => exact sound
    next l live => exact sound.freeSlot live
  refine MarksSound.storeChanged ?_
  generalize allSlots.foldl State.flushSlot s = u at flushed ⊢
  exact flushed.frame rfl rfl

theorem MarksSound.flushSelected (sound : MarksSound s) (parking : ParkingSound s) (selection : Byte) :
    MarksSound (s.flushSelected selection) := by
  refine (kept_flushSelected (fun t => ParkingSound t ∧ MarksSound t) ⟨parking, sound⟩ (fun t kept => ?_) (fun t kept => ?_)
    (fun t kept => ?_) (fun t kept => ?_) (fun t kept => ?_) selection).2
  · exact ⟨kept.1.flushWindow, marksSound_of_empty (by rw [State.flushWindow, foldl_chargeFlush_eq])⟩
  · exact ⟨parkingSound_of_empty t.flushTriggers_parking t.slot_flushTriggers, kept.2.flushTriggers⟩
  · exact ⟨kept.1.flushEvents, kept.2.flushEvents kept.1⟩
  · rw [State.flushNotices_eq]
    exact ⟨kept.1.frame rfl rfl rfl, kept.2.frame rfl rfl⟩
  · exact ⟨kept.1.frame rfl rfl rfl, kept.2.frame rfl rfl⟩

/-! ### The window's action at a tick (R16, R18, R39) -/

/-- A range that holds a tick beyond the horizon's new value ends beyond it too. -/
theorem State.last_ahead (legal : SettingsLegal s) (stands : s.horizonStands) {x first last : Tick} (entry : s.within 0 x)
    (range : s.within 7 last) (holds : inRange x first last = true)
    (ahead : atOrBefore x (horizonOf s.tick s.regs.latency) = false) :
    atOrBefore last (horizonOf s.tick s.regs.latency) = false := by
  obtain ⟨low, high⟩ := legal.latency
  obtain ⟨deep, shallow, -⟩ := legal.depth stands
  obtain ⟨after, before⟩ := entry
  obtain ⟨least, most⟩ := range
  unfold inRange at holds
  rw [Bool.and_eq_true] at holds
  have upTo := holds.2
  unfold atOrBefore at ahead upTo ⊢
  rw [decide_eq_true_eq] at upTo
  rw [decide_eq_false_iff_not] at ahead ⊢
  unfold State.horizonStands at stands
  generalize horizonOf s.tick s.regs.latency = h at stands ahead
  obtain here | ⟨-, behind⟩ := stands
  · rw [← here]
    bv_omega
  · rw [← behind] at ahead ⊢
    bv_omega

theorem MarksSound.moveHorizon (sound : MarksSound s) (legal : SettingsLegal s) (timed : WindowTimed s) :
    MarksSound s.moveHorizon := by
  intro e mem k mark
  rw [State.moveHorizon_window, List.mem_filter, Bool.not_eq_true'] at mem
  obtain ⟨inside, ahead⟩ := mem
  obtain ⟨l, live, collects⟩ := sound e inside k mark
  obtain ⟨collecting, holds⟩ := Live.collects_iff.1 collects
  have stays := State.last_ahead legal timed.stands (timed.entries _ (State.mem_reqTicks inside))
    (timed.ranges k l live collecting) holds ahead
  unfold State.moveHorizon
  generalize horizonOf s.tick s.regs.latency = h at stays
  have expired := State.slot_expire { s with horizon := h, owed := { s.owed with horizon := false } } h live
  refine ⟨_, (State.slot_report_of_stays ?_).trans expired, collects⟩
  intro m held _
  obtain rfl := Option.some.inj (expired.symm.trans held)
  exact stays

/-! ### Admission (R20, R37) -/

theorem mem_marks_mark {e : Entry} {j k : Slot} : j ∈ (e.mark k).marks ↔ j = k ∨ j ∈ e.marks := by
  simp [Entry.mark, mem_allSlots]

theorem MarksSound.admitInto (sound : MarksSound s) (a : Arrival) {k : Slot} (free : s.slot k = none) :
    MarksSound (s.admitInto a k) := by
  have unmarked : s.unmarked k :=
    sound.unmarked_of_idle (fun l live => absurd (live.symm.trans free) (Option.some_ne_none l))
  have old {e : Entry} (inside : e ∈ s.window) {j : Slot} (mark : j ∈ e.marks) :
      CollectsAt (s.admitInto a k) j e.reqTick := by
    have other : j ≠ k := fun same => unmarked e inside (same ▸ mark)
    unfold CollectsAt
    rw [s.slot_admitInto_ne a other]
    exact sound e inside j mark
  intro g mem j mark
  obtain ⟨e, inside, rfl⟩ := List.mem_map.1 mem
  split at mark
  next holds =>
    rw [if_pos holds]
    obtain rfl | was := mem_marks_mark.1 mark
    · exact ⟨_, s.slot_admitInto_self a j, Live.collects_iff.2 ⟨rfl, holds⟩⟩
    · exact old inside was
  next apart =>
    rw [if_neg apart]
    exact old inside mark

/-! ### The acts -/

theorem State.mem_collectors {k : Slot} {x : Tick} : k ∈ s.collectors x ↔ CollectsAt s k x := by
  rw [State.collectors, List.mem_filter, and_iff_right (mem_allSlots k), Option.any_eq_true]
  rfl

theorem Entry.abandon_marks (e : Entry) : e.abandon.marks = e.marks := by
  unfold Entry.abandon
  split <;> rfl

/-- The premises of sound marks, and sound marks. -/
def MarksInvariant (s : State) : Prop := TimeInvariant s ∧ ParkingSound s ∧ MarksSound s

theorem marksInvariant_actKept : ActKept MarksInvariant := by
  intro s t act kept
  refine ⟨timeInvariant_actKept act kept.1, parkingSound_actKept act kept.2.1, ?_⟩
  obtain ⟨⟨legal, -, timed⟩, parking, sound⟩ := kept
  cases act with
  | moveHorizon => exact (sound.moveHorizon legal timed).drainTest
  | discard k l live =>
    unfold State.discard
    rw [live]
    exact (sound.freeSlot live).storeChanged.drainTest
  | confirm k l live =>
    exact sound.mono (fun e mem => ⟨e, mem, rfl, List.Subset.refl _⟩) (State.shape_setSlot_of_eq live rfl)
  | handOn k l deadline live held =>
    exact (sound.handOn (State.idle_of_live live (by rw [held]; exact EntryState.noConfusion))).drainTest
  | admission a k legal free => exact sound.admitInto a free
  | reset => exact marksSound_of_empty rfl
  | flush selection => exact (sound.flushSelected parking selection).drainTest
  | endItem item =>
    have ended := MarksSound.ended (s := { s with framer := .idle }) (sound.frame rfl rfl) (parking.frame rfl rfl rfl) item
    exact ended.frame rfl rfl
  | mrst =>
    refine sound.mono (fun g mem => ?_) (State.shape_congr rfl)
    obtain ⟨e, inside, rfl⟩ := List.mem_map.1 mem
    exact ⟨e, inside, e.abandon_reqTick.symm, e.abandon_marks ▸ List.Subset.refl _⟩
  | stop => exact MarksSound.drainTest (sound.frame rfl rfl)
  | rechoose | notice => rw [State.rechoose_eq]; exact sound.frame rfl rfl
  | countThrottle => rw [State.countThrottle_eq]; exact sound.frame rfl rfl
  | writeReg => rw [State.writeReg_eq]; exact sound.frame rfl rfl
  | beginItem => rw [State.beginItem_eq]; exact sound.frame rfl rfl
  | _ => exact sound.frame rfl rfl

theorem marksInvariant_pathKept : PathKept MarksInvariant := by
  intro s t act kept
  refine ⟨timeInvariant_pathKept act kept.1, parkingSound_pathKept act kept.2.1, ?_⟩
  obtain ⟨-, -, sound⟩ := kept
  cases act with
  | createEntry r =>
    intro e mem k mark
    obtain old | new := List.mem_append.1 mem
    · exact sound e old k mark
    · obtain rfl := List.mem_singleton.1 new
      exact State.mem_collectors.1 mark
  | addMissed n k =>
    exact sound.mono (fun e mem => ⟨e, by rwa [State.addMissed_eq] at mem, rfl, List.Subset.refl _⟩) (s.shape_addMissed n k)
  | pair item ts =>
    refine sound.mono (fun g mem => ?_) (State.shape_congr (by rw [State.settleLink_eq]))
    rw [State.settleLink_window] at mem
    obtain ⟨e, inside, rfl⟩ := List.mem_map.1 mem
    refine ⟨e, inside, ?_⟩
    split
    · exact ⟨rfl, List.Subset.refl _⟩
    · exact ⟨rfl, List.Subset.refl _⟩
  | _ => exact sound.frame rfl rfl

end

/-- Settles O60: a mark is set for a slot that collects, and goes with the end of its collection, whose range the window has
left by then, or with its discard. -/
theorem stepKeepsMarksSound : Obligations.StepKeepsMarksSound := by
  unfold Obligations.StepKeepsMarksSound
  intro s t ran legal off parking time sound
  obtain ⟨-, -, after⟩ := step_keeps marksInvariant_actKept marksInvariant_pathKept ran
    ⟨⟨legal, off, inTime_iff.1 time⟩, parking, sound⟩
  exact after

end Sys2Proof.Machine
end

section
/-! The clock's commands: one step of the queue, a tick and what it settles first, and the throttle's count wherever it is taken
(R1, R2, R119, R141, R182). -/

-- One theorem after another: side by side they ask for more threads than the check's memory limit allows.
set_option Elab.async false

namespace Sys2Proof.Machine

open Sys2Proof

section

variable {s t : State}

/-! ### The commands that RST_N does not hold back -/

theorem exec_tick (out : s.rst = false) (o : CountOrder) :
    exec (.tick o) s = .next (s.settleTick.advanceTick.startCount o) := by
  rw [exec, execTick, if_neg (by simp [out])]

theorem exec_horizonAdvance (out : s.rst = false) : exec .horizonAdvance s = .next s.advanceHorizon := by
  rw [exec, execHorizonAdvance, if_neg (by simp [out])]

theorem exec_decisionDeadline (out : s.rst = false) : exec .decisionDeadline s = .next s.takeDeadlines := by
  rw [exec, execDecisionDeadline, if_neg (by simp [out])]

/-! ### The throttle's count (R119, R182) -/

theorem State.countThrottle_of_free (free : s.throttleHold = false) :
    s.countThrottle = { s with throttleCount := 0, owed := { s.owed with count := none } } := by
  rw [State.countThrottle, if_neg (by simp [free])]

theorem State.countThrottle_of_short (hold : s.throttleHold = true) (short : satInc s.throttleCount < s.regs.throttleLimit) :
    s.countThrottle = { s with throttleCount := satInc s.throttleCount, owed := { s.owed with count := none } } := by
  rw [State.countThrottle, if_pos hold, if_neg (BitVec.not_le.2 short)]

theorem State.countThrottle_of_limit (hold : s.throttleHold = true) (limit : s.regs.throttleLimit ≤ satInc s.throttleCount) :
    s.countThrottle = { s with
      suspended := true, throttleCount := 0, owed := { s.owed with count := none },
      counters := { s.counters with throttleTimeouts := satInc s.counters.throttleTimeouts },
      flags := s.flags ||| 0x0010 } := by
  rw [State.countThrottle, if_pos hold, if_pos limit, State.raise_throttle, State.count_throttleTimeouts]

/-- A timeout is due when a count is owed and reaches the limit (R119). -/
theorem State.timeoutDue_iff : s.timeoutDue = true ↔
    s.owed.count ≠ none ∧ s.throttleHold = true ∧ s.regs.throttleLimit ≤ satInc s.throttleCount := by
  unfold State.timeoutDue
  rw [Bool.and_eq_true, Bool.and_eq_true, Option.isSome_iff_ne_none, decide_eq_true_iff, and_assoc]

/-! ### What a tick settles first (log 2) -/

theorem State.settleTick_of_deadlines (taken : s.owed.horizon = false) (owed : s.owed.deadlines = true)
    (after : s.takeDeadlines.owed.deadlines = false) : s.settleTick = s.takeDeadlines.settleTick := by
  simp [State.settleTick, taken, owed, after]

theorem State.settleTick_of_count (horizon : s.owed.horizon = false) (deadlines : s.owed.deadlines = false)
    (owed : s.owed.count ≠ none) (same : s.countThrottle.owed = { s.owed with count := none }) :
    s.settleTick = s.countThrottle.settleTick := by
  simp [State.settleTick, horizon, deadlines, Option.isSome_iff_ne_none.2 owed, same]

theorem State.settleTick_of_choice (horizon : s.owed.horizon = false) (deadlines : s.owed.deadlines = false)
    (count : s.owed.count = none) (owed : s.owed.choice = true) :
    s.settleTick = ({ s with owed := { s.owed with choice := false } } : State).rechoose.settleTick := by
  simp [State.settleTick, horizon, deadlines, count, owed]

theorem State.settleTick_of_nothing (nothing : s.owed = Owed.nothing) : s.settleTick = s := by
  simp [State.settleTick, nothing, Owed.nothing]

theorem State.countThrottle_owed (s : State) : s.countThrottle.owed = { s.owed with count := none } := by
  unfold State.countThrottle
  split
  · split <;> rfl
  · rfl

/-! ### A count left to come is no matter of the expiry or of the deadlines (log 3) -/

/-- The state with another count owed. -/
def State.withCount (s : State) (c : Option CountOrder) : State := { s with owed := { s.owed with count := c } }

section

variable (s) (c : Option CountOrder)

theorem State.withCount_withCount (d : Option CountOrder) : (s.withCount c).withCount d = s.withCount d := rfl

theorem State.countThrottle_withCount : (s.withCount c).countThrottle = s.countThrottle := by
  have hold : (s.withCount c).throttleHold = s.throttleHold :=
    State.throttleHold_congr rfl rfl (State.freeSlots_congr rfl rfl) rfl
  unfold State.countThrottle
  rw [hold]
  rfl

theorem State.setSlot_withCount (k : Slot) (o : Option Live) : (s.withCount c).setSlot k o = (s.setSlot k o).withCount c := rfl

theorem State.rechoose_withCount : (s.withCount c).rechoose = s.rechoose.withCount c := by
  have choose : (s.withCount c).choose = s.choose := State.choose_congr rfl rfl rfl rfl rfl rfl rfl rfl
  have framer : (s.withCount c).framer = s.framer := rfl
  unfold State.rechoose State.offer
  rw [choose, framer]
  cases s.framer <;> rfl

theorem State.storeChanged_withCount : (s.withCount c).storeChanged = s.storeChanged.withCount c := by
  have free : (s.withCount c).freeSlots = s.freeSlots := State.freeSlots_congr rfl rfl
  unfold State.storeChanged
  rw [free]
  split <;> rfl

theorem State.drainTest_withCount : (s.withCount c).drainTest = s.drainTest.withCount c := by
  have settled : (s.withCount c).settled = s.settled := State.settled_congr rfl rfl
  have state : (s.withCount c).recState = s.recState := rfl
  unfold State.drainTest
  rw [settled, state]
  split <;> rfl

theorem State.notify_withCount (n : Notice) : (s.withCount c).notify n = (s.notify n).withCount c := by
  have enabled : (s.withCount c).noticeEnabled n = s.noticeEnabled n := by cases n <;> rfl
  have notices : (s.withCount c).notices = s.notices := rfl
  unfold State.notify
  rw [enabled, notices]
  split
  · split
    · exact State.rechoose_withCount { s with notices := s.notices ++ [n] } c
    · rfl
  · rfl

theorem State.handOver_withCount (k : Slot) : (s.withCount c).handOver k = (s.handOver k).withCount c := by
  have slot : (s.withCount c).slot k = s.slot k := rfl
  unfold State.handOver
  rw [slot]
  split
  · rfl
  next l live => exact State.rechoose_withCount (({ s with queue := s.queue ++ [l.completed] } : State).setSlot k none) c

theorem State.handOn_withCount (k : Slot) : (s.withCount c).handOn k = (s.handOn k).withCount c := by
  have room : (s.withCount c).queueRoom = s.queueRoom := rfl
  have park : (s.withCount c).park k = (s.park k).withCount c := by
    have slot : (s.withCount c).slot k = s.slot k := rfl
    unfold State.park
    rw [slot]
    split <;> rfl
  unfold State.handOn
  rw [room]
  split
  · exact s.handOver_withCount c k
  · exact park

theorem State.endCollection_withCount (k : Slot) : (s.withCount c).endCollection k = (s.endCollection k).withCount c := by
  have slot : (s.withCount c).slot k = s.slot k := rfl
  unfold State.endCollection
  rw [slot]
  split
  · rfl
  · dsimp only
    split
    · rfl
    · exact State.handOn_withCount (s.setSlot k _) c k

/-- What each turn of a fold leaves of the count owed, the fold leaves. -/
theorem foldl_withCount {α : Type} {op : State → α → State}
    (same : ∀ (u : State) (a : α), op (u.withCount c) a = (op u a).withCount c) (l : List α) :
    l.foldl op (s.withCount c) = (l.foldl op s).withCount c := by
  induction l generalizing s with
  | nil => rfl
  | cons a l ih => rw [List.foldl_cons, same, ih, List.foldl_cons]

theorem State.report_withCount (h : Tick) : (s.withCount c).report h = (s.report h).withCount c := by
  refine foldl_withCount s c (fun u k => ?_) allSlots
  have slot : (u.withCount c).slot k = u.slot k := rfl
  unfold State.reportSlot
  rw [slot]
  split
  · rfl
  · split
    · exact u.endCollection_withCount c k
    · rfl

theorem State.offerRecord_withCount (r : Record) (k : Slot) :
    (s.withCount c).offerRecord r k = (s.offerRecord r k).withCount c := by
  have slot : (s.withCount c).slot k = s.slot k := rfl
  have free : (s.withCount c).freeSlots = s.freeSlots := State.freeSlots_congr rfl rfl
  have regs : (s.withCount c).regs = s.regs := rfl
  unfold State.offerRecord
  rw [slot]
  split
  · rfl
  · dsimp only
    rw [free, regs]
    split
    · split <;> rfl
    · rfl

theorem State.expireEntry_withCount (e : Entry) : (s.withCount c).expireEntry e = (s.expireEntry e).withCount c := by
  unfold State.expireEntry
  rw [foldl_withCount s c (fun u k => u.offerRecord_withCount c e.copy k)]
  dsimp only
  split <;> rfl

theorem State.expire_withCount (h : Tick) : (s.withCount c).expire h = (s.expire h).withCount c :=
  foldl_withCount { s with window := s.window.filter (fun e => !atOrBefore e.reqTick h) } c
    (fun u e => u.expireEntry_withCount c e) _

theorem State.moveHorizon_withCount : (s.withCount c).moveHorizon = s.moveHorizon.withCount c := by
  unfold State.moveHorizon
  dsimp only
  rw [← State.report_withCount, ← State.expire_withCount]
  rfl

theorem State.deadlineSlot_withCount (k : Slot) : (s.withCount c).deadlineSlot k = (s.deadlineSlot k).withCount c := by
  have slot : (s.withCount c).slot k = s.slot k := rfl
  have discard (l : Live) (live : s.slot k = some l) : (s.withCount c).discard k = (s.discard k).withCount c := by
    unfold State.discard
    rw [slot, live]
    dsimp only
    rw [← State.drainTest_withCount, ← State.storeChanged_withCount, ← State.setSlot_withCount]
    split <;> rfl
  unfold State.deadlineSlot
  rw [slot]
  split
  · rfl
  next l live =>
    refine Eq.trans ?_ (apply_ite (fun u : State => u.withCount c) _ _ _).symm
    refine if_congr Iff.rfl ?_ rfl
    unfold State.discardReported
    rw [slot, live]
    dsimp only
    rw [discard l live, ← State.notify_withCount]
    rfl

end

theorem State.countIf_of_owed {o : CountOrder} (owed : s.owed.count = some o) : s.countIf o = s.countThrottle := by
  rw [State.countIf, if_pos owed]

theorem State.countIf_of_other {o : CountOrder} (other : s.owed.count ≠ some o) : s.countIf o = s := by
  rw [State.countIf, if_neg other]

theorem State.moveHorizon_owed_count (s : State) : s.moveHorizon.drainTest.owed.count = s.owed.count := by
  rw [State.drainTest_owed, State.moveHorizon_eq]

/-- The window's action of a tick with the count owed to it is the action alone, then the count (R119). -/
theorem State.advanceHorizon_of_count (owed : s.owed.count = some .afterExpiry) :
    s.advanceHorizon = (s.withCount none).advanceHorizon.countThrottle := by
  have early : (s.withCount none).advanceHorizon = s.moveHorizon.drainTest.withCount none := by
    rw [State.advanceHorizon_eq_moveHorizon, State.countIf_of_other, State.moveHorizon_withCount, State.drainTest_withCount]
    rw [State.moveHorizon_owed_count]
    exact (Option.some_ne_none _).symm
  rw [early, State.countThrottle_withCount, State.advanceHorizon_eq_moveHorizon,
    State.countIf_of_owed (s.moveHorizon_owed_count.trans owed)]

/-- The deadlines' discards, before a count left to them. -/
def State.meetDeadlines (s : State) : State :=
  allSlots.foldl State.deadlineSlot { s with owed := { s.owed with deadlines := false } }

theorem State.takeDeadlines_eq_meetDeadlines (s : State) : s.takeDeadlines = s.meetDeadlines.countIf .afterDeadlines := rfl

theorem State.meetDeadlines_owed (s : State) : s.meetDeadlines.owed = { s.owed with deadlines := false } := by
  rw [State.meetDeadlines, foldl_deadlineSlot_eq]

theorem State.meetDeadlines_withCount (s : State) (c : Option CountOrder) :
    (s.withCount c).meetDeadlines = s.meetDeadlines.withCount c :=
  foldl_withCount { s with owed := { s.owed with deadlines := false } } c (fun u k => u.deadlineSlot_withCount c k) allSlots

theorem State.takeDeadlines_owed_deadlines (s : State) : s.takeDeadlines.owed.deadlines = false := by
  rw [State.takeDeadlines_eq_meetDeadlines, State.countIf]
  split
  · rw [State.countThrottle_owed, State.meetDeadlines_owed]
  · rw [State.meetDeadlines_owed]

/-- The table's action of a tick with the count owed to it is the action alone, then the count (R119). -/
theorem State.takeDeadlines_of_count (owed : s.owed.count = some .afterDeadlines) :
    s.takeDeadlines = (s.withCount none).takeDeadlines.countThrottle := by
  have early : (s.withCount none).takeDeadlines = s.meetDeadlines.withCount none := by
    rw [State.takeDeadlines_eq_meetDeadlines, State.countIf_of_other, State.meetDeadlines_withCount]
    rw [State.meetDeadlines_owed]
    exact (Option.some_ne_none _).symm
  rw [early, State.countThrottle_withCount, State.takeDeadlines_eq_meetDeadlines, State.countIf_of_owed]
  rw [State.meetDeadlines_owed]
  exact owed

end

/-- Settles O2, by the two cases of the queue. -/
theorem stepRunsTheFrontCommand : Obligations.StepRunsTheFrontCommand := by
  unfold Obligations.StepRunsTheFrontCommand
  refine ⟨fun c rest s front => by rw [step, front], fun s empty => ?_⟩
  rw [show step s = .next s.refclkPeriod by rw [step, empty], State.refclkPeriod]
  refine ⟨fun out short => ?_, fun out full => ?_, fun asserted => ?_⟩
  · rw [if_neg (by simp [out]), if_pos short]
  · rw [if_neg (by simp [out]), if_neg (Nat.not_lt.2 full)]
  · rw [if_pos asserted]

/-- Settles O3: with nothing owed a tick is the advance and the start of its count, whose three cases are the throttle's. -/
theorem tickAdvances : Obligations.TickAdvances := by
  unfold Obligations.TickAdvances
  intro s out nothing
  have timer : satInc s.statusTimer = if s.statusTimer = 65535 then 65535 else s.statusTimer + 1 := by
    unfold satInc
    split
    next full => exact full
    next => rfl
  have hold : s.advanceTick.throttleHold = s.throttleHold :=
    State.throttleHold_congr rfl rfl (State.freeSlots_congr rfl rfl) rfl
  have ticked (o : CountOrder) : exec (.tick o) s = .next (s.advanceTick.startCount o) := by
    rw [exec_tick out, State.settleTick_of_nothing nothing]
  dsimp only
  rw [← timer]
  refine ⟨fun free => ?_, fun held short => ?_, fun held limit => ?_, fun o later => ?_⟩
  · rw [ticked]
    exact congrArg _ (State.countThrottle_of_free (hold.trans free))
  · rw [ticked]
    exact congrArg _ (State.countThrottle_of_short (hold.trans held) short)
  · rw [ticked]
    exact congrArg _ (State.countThrottle_of_limit (hold.trans held) limit)
  · rw [ticked]
    cases o with
    | atOnce => exact absurd rfl later
    | afterExpiry => rfl
    | afterDeadlines => rfl

/-- Settles O4: what is owed comes off in the order of `settleTick`, each by the act of its own command. -/
theorem tickFirstTakesWhatIsOwed : Obligations.TickFirstTakesWhatIsOwed := by
  unfold Obligations.TickFirstTakesWhatIsOwed
  intro s o out
  have settles {t : State} (same : t.rst = s.rst) (settled : s.settleTick = t.settleTick) :
      exec (.tick o) s = exec (.tick o) t := by
    rw [exec_tick out, exec_tick (same.trans out), settled]
  refine ⟨fun owed => ?_, fun taken owed => ?_, fun horizon deadlines owed => ?_, fun horizon deadlines count owed => ?_⟩
  · exact ⟨_, exec_horizonAdvance out, settles (by rw [State.advanceHorizon_eq]) (State.settleTick_of_horizon owed)⟩
  · exact ⟨_, exec_decisionDeadline out, settles (by rw [State.takeDeadlines_eq])
      (State.settleTick_of_deadlines taken owed s.takeDeadlines_owed_deadlines)⟩
  · have counted := settles (by rw [State.countThrottle_eq])
      (State.settleTick_of_count horizon deadlines owed s.countThrottle_owed)
    refine ⟨counted, fun hold limit => ⟨_, ?_, counted⟩⟩
    rw [exec, execThrottleTimeout, if_pos (State.timeoutDue_iff.2 ⟨owed, hold, limit⟩)]
  · exact ⟨_, rfl, settles (State.rechoose_rst _) (State.settleTick_of_choice horizon deadlines count owed)⟩

/-- Settles O5: the count's three cases; the expiry and the deadlines do not read a count left to them; and THROTTLE_TIMEOUT acts
where a timeout is due. -/
theorem throttleCountsAndTimesOut : Obligations.ThrottleCountsAndTimesOut := by
  unfold Obligations.ThrottleCountsAndTimesOut
  refine ⟨fun s => ⟨State.countThrottle_of_free, State.countThrottle_of_short, State.countThrottle_of_limit⟩,
    fun s out => ⟨fun owed => ?_, fun owed => ?_⟩, fun s => ⟨fun owed hold limit => ?_, fun free => ?_⟩⟩
  · refine ⟨_, exec_horizonAdvance (s := s.withCount none) out, ?_⟩
    rw [exec_horizonAdvance out, State.advanceHorizon_of_count owed]
  · refine ⟨_, exec_decisionDeadline (s := s.withCount none) out, ?_⟩
    rw [exec_decisionDeadline out, State.takeDeadlines_of_count owed]
  · rw [exec, execThrottleTimeout, if_pos (State.timeoutDue_iff.2 ⟨owed, hold, limit⟩)]
  · rw [exec, execThrottleTimeout, if_neg]
    rw [State.timeoutDue_iff]
    rintro ⟨owed, hold, limit⟩
    obtain none | off | short := free
    · exact owed none
    · exact Bool.noConfusion (off.symm.trans hold)
    · exact BitVec.not_le.2 short limit

end Sys2Proof.Machine
end

section
/-! Offers: what one comes to, what an expiry's offers come to in turn, and what they count and flag (R16, R17, R69, R70). -/

-- One theorem after another: side by side they ask for more threads than the check's memory limit allows.
set_option Elab.async false

namespace Sys2Proof.Machine

open Sys2Proof

/-! ### Flags and counters one by one (R166, R167) -/

theorem flagIndex_lt (f : Flag) : flagIndex f < 16 := by
  cases f <;> decide

theorem flagIndex_inj : ∀ f g : Flag, flagIndex f = flagIndex g → f = g := by
  intro f g
  cases f <;> cases g <;> simp [flagIndex]

/-- Raising a flag sets it and no other. -/
theorem State.flagSet_raise (s : State) (f g : Flag) : (s.raise f).flagSet g = (s.flagSet g || decide (g = f)) := by
  have low := flagIndex_lt g
  rw [State.flagSet, State.raise, flagBit, BitVec.getLsbD_or, BitVec.getLsbD_shiftLeft, ← State.flagSet]
  refine congrArg _ ?_
  rw [Bool.eq_iff_iff]
  simp only [low, decide_true, Bool.true_and, Bool.and_eq_true, Bool.not_eq_true', decide_eq_false_iff_not, not_lt,
    BitVec.getLsbD_one, decide_eq_true_eq]
  constructor
  · rintro ⟨above, -, here⟩
    exact flagIndex_inj g f (by omega)
  · rintro rfl
    exact ⟨le_rfl, by decide, Nat.sub_self _⟩

theorem State.flagSet_raise_self (s : State) (f : Flag) : (s.raise f).flagSet f = true := by
  rw [State.flagSet_raise, decide_eq_true rfl, Bool.or_true]

theorem State.flagSet_raise_of_ne (s : State) {f g : Flag} (other : g ≠ f) : (s.raise f).flagSet g = s.flagSet g := by
  rw [State.flagSet_raise, decide_eq_false other, Bool.or_false]

theorem State.flagSet_congr {s t : State} (flags : t.flags = s.flags) (f : Flag) : t.flagSet f = s.flagSet f := by
  rw [State.flagSet, flags, ← State.flagSet]

/-- A cause counts in its own counter. -/
theorem Counters.get_bump_of_ne (g : Counters) {c d : CounterName} (other : d ≠ c) : (g.bump c).get d = g.get d := by
  cases c with
  | _ => cases d with
    | _ => first | rfl | exact absurd rfl other

section

variable {s t : State}

theorem State.flagSet_drainTest (s : State) {f : Flag} (other : f ≠ .drained) : s.drainTest.flagSet f = s.flagSet f := by
  unfold State.drainTest
  split
  · exact State.flagSet_raise_of_ne _ other
  · rfl

theorem State.flagSet_countThrottle (s : State) {f : Flag} (other : f ≠ .throttle) :
    s.countThrottle.flagSet f = s.flagSet f := by
  unfold State.countThrottle
  split
  · split
    · exact State.flagSet_raise_of_ne _ other
    · rfl
  · rfl

theorem State.counters_countThrottle (s : State) {c : CounterName} (other : c ≠ .throttleTimeouts) :
    s.countThrottle.counters.get c = s.counters.get c := by
  unfold State.countThrottle
  split
  · split
    · exact Counters.get_bump_of_ne _ other
    · rfl
  · rfl

/-! ### One offer (R69, R70) -/

theorem State.offerRecord_of_free {k : Slot} (free : s.slot k = none) (r : Record) : s.offerRecord r k = s := by
  rw [State.offerRecord, free]

theorem State.offerRecord_of_stored {k : Slot} {l : Live} (live : s.slot k = some l)
    (below : l.event.records.length < s.regs.maxRecords.toNat) (room : 1 ≤ s.freeSlots) (r : Record) :
    s.offerRecord r k =
      s.setSlot k (some { l with event := { l.event with records := l.event.records ++ [r] } }) := by
  rw [State.offerRecord, live]
  simp only [EventBuild.take, if_pos below, if_pos room]

theorem State.offerRecord_of_limit {k : Slot} {l : Live} (live : s.slot k = some l)
    (full : s.regs.maxRecords.toNat ≤ l.event.records.length) (r : Record) :
    s.offerRecord r k = (s.setSlot k (some { l with event := { l.event with
      truncated := satInc l.event.truncated, limitReason := true } })).count .truncatedRecords := by
  rw [State.offerRecord, live]
  simp only [EventBuild.take, if_neg (Nat.not_lt.2 full)]

theorem State.offerRecord_of_full {k : Slot} {l : Live} (live : s.slot k = some l)
    (below : l.event.records.length < s.regs.maxRecords.toNat) (full : s.freeSlots = 0) (r : Record) :
    s.offerRecord r k = ((s.setSlot k (some { l with event := { l.event with
      truncated := satInc l.event.truncated, storeFullReason := true } })).count .truncatedRecords).raise .storeFull := by
  rw [State.offerRecord, live]
  simp only [EventBuild.take, if_pos below, if_neg (show ¬ 1 ≤ s.freeSlots by omega)]

theorem State.disposition_of_live {k : Slot} {l : Live} (live : s.slot k = some l) : s.disposition k =
    if s.regs.maxRecords.toNat ≤ l.event.records.length then .limit else if s.freeSlots = 0 then .full else .stored := by
  rw [State.disposition, State.heldBy, live]

/-- What an offer counts and flags, by what it comes to. -/
theorem State.offerRecord_account {k : Slot} {l : Live} (live : s.slot k = some l) (r : Record) :
    (s.offerRecord r k).counters = (if s.disposition k = .stored then s.counters else s.counters.bump .truncatedRecords) ∧
      (s.offerRecord r k).flags = (if s.disposition k = .full then s.flags ||| flagBit .storeFull else s.flags) := by
  rw [State.disposition_of_live live]
  by_cases limit : s.regs.maxRecords.toNat ≤ l.event.records.length
  · rw [State.offerRecord_of_limit live limit, if_pos limit]
    exact ⟨rfl, rfl⟩
  · by_cases full : s.freeSlots = 0
    · rw [State.offerRecord_of_full live (Nat.lt_of_not_le limit) full, if_neg limit, if_pos full]
      exact ⟨rfl, rfl⟩
    · rw [State.offerRecord_of_stored live (Nat.lt_of_not_le limit) (Nat.one_le_iff_ne_zero.2 full), if_neg limit, if_neg full]
      exact ⟨rfl, rfl⟩

/-! ### Offers in turn -/

/-- The counters after offers that came to the given dispositions. -/
def Counters.truncate (g : Counters) (ds : List Disposition) : Counters :=
  { g with truncatedRecords := satAdd g.truncatedRecords (ds.countP (fun d => d != .stored)) }

/-- The flag word after offers that came to the given dispositions. -/
def flagsAfter (flags : Word) (ds : List Disposition) : Word :=
  if ds.contains .full then flags ||| flagBit .storeFull else flags

theorem Counters.truncate_cons (g : Counters) (d : Disposition) (ds : List Disposition) :
    g.truncate (d :: ds) = (if d = .stored then g else g.bump .truncatedRecords).truncate ds := by
  cases d with
  | stored => rfl
  | limit =>
    simp only [Counters.truncate, Counters.bump, List.countP_cons_of_pos, bne_iff_ne, ne_eq, reduceCtorEq,
      not_false_eq_true, if_false, ← satAdd_one, satAdd_satAdd, Nat.add_comm 1]
  | full =>
    simp only [Counters.truncate, Counters.bump, List.countP_cons_of_pos, bne_iff_ne, ne_eq, reduceCtorEq,
      not_false_eq_true, if_false, ← satAdd_one, satAdd_satAdd, Nat.add_comm 1]

theorem flagsAfter_cons (flags : Word) (d : Disposition) (ds : List Disposition) :
    flagsAfter flags (d :: ds) = flagsAfter (if d = .full then flags ||| flagBit .storeFull else flags) ds := by
  cases d with
  | full => simp [flagsAfter, BitVec.or_assoc]
  | _ => simp [flagsAfter]

theorem flagSet_of_flagsAfter {ds : List Disposition} (flags : t.flags = flagsAfter s.flags ds) {f : Flag}
    (other : f ≠ .storeFull) : t.flagSet f = s.flagSet f := by
  unfold flagsAfter at flags
  split at flags
  · exact (State.flagSet_congr (s := s.raise .storeFull) flags f).trans (s.flagSet_raise_of_ne other)
  · exact State.flagSet_congr flags f

theorem flagSet_storeFull_of_flagsAfter {ds : List Disposition} (flags : t.flags = flagsAfter s.flags ds) :
    t.flagSet .storeFull = (s.flagSet .storeFull || ds.contains .full) := by
  unfold flagsAfter at flags
  split at flags
  next full => rw [State.flagSet_congr (s := s.raise .storeFull) flags, s.flagSet_raise_self, full, Bool.or_true]
  next room =>
    have none : ds.contains .full = false := by simpa using room
    rw [State.flagSet_congr flags, none, Bool.or_false]

/-- What offers to live slots count and flag (R69, R70). -/
theorem foldl_offers_account (offers : List (Record × Slot)) (s : State) (live : ∀ p ∈ offers, s.slot p.2 ≠ none) :
    let ds := dispositions s.regs.maxRecords.toNat s.heldBy s.freeSlots (offers.map Prod.snd)
    (offers.foldl (fun t p => t.offerRecord p.1 p.2) s).counters = s.counters.truncate ds ∧
      (offers.foldl (fun t p => t.offerRecord p.1 p.2) s).flags = flagsAfter s.flags ds := by
  induction offers generalizing s with
  | nil => exact ⟨by simp [Counters.truncate, dispositions, satAdd_zero], rfl⟩
  | cons p offers ih =>
    obtain ⟨r, j⟩ := p
    obtain ⟨m, held⟩ := Option.ne_none_iff_exists'.mp (live (r, j) List.mem_cons_self)
    have still : ∀ q ∈ offers, (s.offerRecord r j).slot q.2 ≠ none := by
      intro q mem
      rw [← Option.isSome_iff_ne_none, State.isSome_slot_offerRecord, Option.isSome_iff_ne_none]
      exact live q (List.mem_cons_of_mem _ mem)
    obtain ⟨counters, flags⟩ := ih (s.offerRecord r j) still
    obtain ⟨first, raised⟩ := s.offerRecord_account held r
    dsimp only
    rw [List.map_cons, State.dispositions_cons s r j _ held, List.foldl_cons, counters, flags, first, raised,
      Counters.truncate_cons, flagsAfter_cons]
    exact ⟨rfl, rfl⟩

/-- What an expiry counts and flags. -/
theorem State.expire_account (s : State) (h : Tick) : (s.expire h).counters = s.counters.truncate (s.dispositionsUpTo h) ∧
    (s.expire h).flags = flagsAfter s.flags (s.dispositionsUpTo h) := by
  obtain ⟨o, expired⟩ := s.expire_offers h
  rw [expired]
  exact foldl_offers_account (s.offersUpTo h) s (s.offersUpTo_live h)

theorem State.dispositionsUpTo_congr (h : Tick) (window : t.window = s.window) (slots : t.slots = s.slots)
    (queue : t.queue = s.queue) (regs : t.regs = s.regs) : t.dispositionsUpTo h = s.dispositionsUpTo h := by
  have slot : t.slot = s.slot := funext (State.slot_congr slots)
  unfold State.dispositionsUpTo State.offersUpTo State.heldBy
  rw [State.freeSlots_congr slots queue, window, regs, slot]

theorem State.moveHorizon_account (s : State) :
    s.moveHorizon.counters = s.counters.truncate (s.dispositionsUpTo (horizonOf s.tick s.regs.latency)) ∧
      s.moveHorizon.flags = flagsAfter s.flags (s.dispositionsUpTo (horizonOf s.tick s.regs.latency)) := by
  unfold State.moveHorizon
  dsimp only
  rw [State.report_eq]
  dsimp only
  generalize horizonOf s.tick s.regs.latency = h
  have same : State.dispositionsUpTo { s with horizon := h, owed := { s.owed with horizon := false } } h =
      s.dispositionsUpTo h := State.dispositionsUpTo_congr h rfl rfl rfl rfl
  obtain ⟨counters, flags⟩ := State.expire_account { s with horizon := h, owed := { s.owed with horizon := false } } h
  exact ⟨same ▸ counters, same ▸ flags⟩

/-! ### What offers come to, one by one -/

theorem length_dispositions (limit : Nat) (held : Slot → Nat) (free : Nat) (ks : List Slot) :
    (dispositions limit held free ks).length = ks.length := by
  induction ks generalizing held free with
  | nil => rfl
  | cons k rest ih =>
    rw [dispositions_step]
    split
    · rw [List.length_cons, ih, List.length_cons]
    · split
      · rw [List.length_cons, ih, List.length_cons]
      · rw [List.length_cons, ih, List.length_cons]

/-- An offer comes to what the stored offers before it leave room for (R69, R70). -/
theorem getElem?_dispositions (limit : Nat) (held : Slot → Nat) (free : Nat) (ks : List Slot) {i : Nat} {k : Slot}
    (here : ks[i]? = some k) :
    let before := (ks.zip (dispositions limit held free ks)).take i
    (dispositions limit held free ks)[i]? = some (
      if limit ≤ held k + before.countP (fun p => p.1 == k && p.2 == .stored) then .limit
      else if free ≤ before.countP (fun p => p.2 == .stored) then .full else .stored) := by
  induction ks generalizing held free i with
  | nil => exact absurd here (by simp)
  | cons j rest ih =>
    cases i with
    | zero =>
      obtain rfl : j = k := by simpa using here
      rw [dispositions_step]
      split
      next limit => simp [limit]
      next below =>
        split
        next full => simp [below, full]
        next room => simp [below, room]
    | succ i =>
      rw [List.getElem?_cons_succ] at here
      rw [dispositions_step]
      split
      next => simpa using ih held free here
      next below =>
        split
        next full => simpa using ih held free here
        next room =>
          have later := ih (fun x => if x = j then held x + 1 else held x) (free - 1) here
          dsimp only at later ⊢
          rw [List.getElem?_cons_succ, later, List.zip_cons_cons, List.take_succ_cons, List.countP_cons, List.countP_cons]
          generalize (rest.zip _).take i = before
          generalize before.countP (fun p => p.1 == k && p.2 == .stored) = mine
          generalize before.countP (fun p => p.2 == .stored) = all
          have pool : free - 1 ≤ all ↔ free ≤ all + 1 := by omega
          by_cases mark : k = j
          · subst mark
            simp [pool, Nat.add_right_comm, Nat.add_assoc]
          · simp [pool, mark, Ne.symm mark]

/-! ### The offers to one slot -/

theorem flatMap_ite_singleton {α β : Type} (p : α → Bool) (f : α → β) (l : List α) :
    l.flatMap (fun a => if p a then [f a] else []) = (l.filter p).map f := by
  induction l with
  | nil => rfl
  | cons a l ih =>
    rw [List.flatMap_cons, List.filter_cons, ih]
    split <;> rfl

/-- The offers of one leaving entry that go to a live slot: one where the entry carries its mark. -/
theorem filter_offersOf {k : Slot} {l : Live} (live : s.slot k = some l) (e : Entry) :
    (s.offersOf e).filter (fun p => p.2 == k) = if e.marks.contains k then [(e.copy, k)] else [] := by
  have single (p : Slot → Bool) : (allSlots.filter p).filter (fun j => j == k) = if p k then [k] else [] := by
    rw [List.filter_beq]
    split
    next here => rw [List.count_filter here, List.count_eq_one_of_mem nodup_allSlots (mem_allSlots k)]; rfl
    next away => rw [List.count_eq_zero.2 (fun mem => away (List.mem_filter.1 mem).2)]; rfl
  rw [State.offersOf, List.filter_map]
  show List.map _ ((allSlots.filter _).filter (fun j => j == k)) = _
  rw [single, live, Option.isSome_some, Bool.and_true]
  split
  · rfl
  · rfl

/-- The records offered to a live slot are the copies of the leaving entries that carry its mark, oldest first (R16, R17). -/
theorem State.offersTo_records {k : Slot} {l : Live} (live : s.slot k = some l) (h : Tick) :
    (s.offersTo h k).map Prod.fst =
      (s.window.filter (fun e => atOrBefore e.reqTick h && e.marks.contains k)).map Entry.copy := by
  have zipped : ((s.offersUpTo h).zip (s.dispositionsUpTo h)).map Prod.fst = s.offersUpTo h := by
    refine List.map_fst_zip ?_
    rw [State.dispositionsUpTo, length_dispositions, List.length_map]
  have offers : s.offersUpTo h = (s.window.filter (fun e => atOrBefore e.reqTick h)).flatMap s.offersOf := rfl
  calc (s.offersTo h k).map Prod.fst
      = (((s.offersUpTo h).zip (s.dispositionsUpTo h)).map Prod.fst |>.filter (fun p => p.2 == k)).map Prod.fst := by
        rw [State.offersTo, List.filter_map, List.map_map, List.map_map]
        rfl
    _ = ((s.window.filter (fun e => atOrBefore e.reqTick h)).flatMap
          (fun e => if e.marks.contains k then [(e.copy, k)] else [])).map Prod.fst := by
        rw [zipped, offers, List.filter_flatMap]
        exact congrArg _ (List.flatMap_congr (fun e _ => filter_offersOf live e))
    _ = (s.window.filter (fun e => atOrBefore e.reqTick h && e.marks.contains k)).map Entry.copy := by
        rw [flatMap_ite_singleton, List.filter_filter, List.map_map]
        simp only [Bool.and_comm]
        rfl

/-! ### The horizon's command -/

theorem State.advanceHorizon_slot (s : State) (k : Slot) : s.advanceHorizon.slot k = s.moveHorizon.slot k := by
  rw [State.advanceHorizon_eq_moveHorizon]
  generalize s.moveHorizon = t
  refine State.slot_congr ?_ k
  rw [State.countIf_eq]
  dsimp only
  rw [State.drainTest_eq]

theorem State.advanceHorizon_flagSet (s : State) {f : Flag} (other : f ≠ .drained)
    (count : f = .throttle → s.owed.count ≠ some .afterExpiry) : s.advanceHorizon.flagSet f = s.moveHorizon.flagSet f := by
  rw [State.advanceHorizon_eq_moveHorizon, ← s.moveHorizon.flagSet_drainTest other, State.countIf]
  split
  next owed =>
    refine State.flagSet_countThrottle _ (fun same => count same ?_)
    rw [← State.moveHorizon_owed_count]
    exact owed
  next => rfl

theorem State.advanceHorizon_counters (s : State) {c : CounterName}
    (count : c = .throttleTimeouts → s.owed.count ≠ some .afterExpiry) :
    s.advanceHorizon.counters.get c = s.moveHorizon.counters.get c := by
  have drained : s.moveHorizon.drainTest.counters = s.moveHorizon.counters := by rw [State.drainTest_eq]
  rw [State.advanceHorizon_eq_moveHorizon, ← drained, State.countIf]
  split
  next owed =>
    refine State.counters_countThrottle _ (fun same => count same ?_)
    rw [← State.moveHorizon_owed_count]
    exact owed
  next => rfl

/-- After the horizon's command an entry whose collection it does not end has met the offers to it (R16, R39). -/
theorem State.advanceHorizon_slot_of_stays {k : Slot} {l : Live} (live : s.slot k = some l)
    (stays : l.state ≠ .collecting ∨ atOrBefore l.last (horizonOf s.tick s.regs.latency) = false) :
    s.advanceHorizon.slot k = some (s.expired (horizonOf s.tick s.regs.latency) k l) := by
  rw [State.advanceHorizon_slot, State.moveHorizon]
  dsimp only
  generalize horizonOf s.tick s.regs.latency = h at stays ⊢
  have expired := State.slot_expire { s with horizon := h, owed := { s.owed with horizon := false } } h live
  have offers : State.offersTo { s with horizon := h, owed := { s.owed with horizon := false } } h k = s.offersTo h k := by
    have same : State.dispositionsUpTo { s with horizon := h, owed := { s.owed with horizon := false } } h =
        s.dispositionsUpTo h := State.dispositionsUpTo_congr h rfl rfl rfl rfl
    rw [State.offersTo, same]
    rfl
  rw [State.expired, offers] at expired
  refine (State.slot_report_of_stays ?_).trans expired
  intro m held collecting
  obtain rfl := Option.some.inj (expired.symm.trans held)
  exact stays.resolve_left (not_not.2 collecting)

end

/-- Settles O7, by what the offer comes to. -/
theorem offerIsStoredOrTruncated : Obligations.OfferIsStoredOrTruncated := by
  unfold Obligations.OfferIsStoredOrTruncated
  intro s r k
  refine ⟨fun free => State.offerRecord_of_free free r, fun l live => ⟨fun below room => ⟨?_, ?_⟩, fun full => ?_,
    fun below full => ?_⟩⟩
  · exact State.offerRecord_of_stored live below room r
  · rw [State.freeSlots_offerRecord s r k live, State.disposition_of_live live, if_neg (Nat.not_le.2 below),
      if_neg (show ¬ s.freeSlots = 0 by omega), if_pos rfl]
  · exact State.offerRecord_of_limit live full r
  · exact State.offerRecord_of_full live below full r

/-- Settles O8: an expiry is its offers in turn, and each leaves its account in the event, the counter and the flag. -/
theorem everyMarkedEntryIsStoredOrTruncated : Obligations.EveryMarkedEntryIsStoredOrTruncated := by
  unfold Obligations.EveryMarkedEntryIsStoredOrTruncated
  refine ⟨fun s out => ⟨fun k l live => s.slot_expire _ live, _, exec_horizonAdvance out, ?_, ?_, ?_⟩,
    fun s h k l live => State.offersTo_records live h,
    fun limit held free ks => ⟨length_dispositions limit held free ks, fun i k => getElem?_dispositions limit held free ks⟩,
    fun e => ⟨⟨rfl, rfl, rfl, rfl, rfl, rfl, rfl, rfl, rfl⟩, fun none => ?_, fun st lat m answered => ?_, fun abandoned => ?_⟩⟩
  · exact fun k l live stays => State.advanceHorizon_slot_of_stays live stays
  · have counted := s.advanceHorizon_counters (c := .truncatedRecords) CounterName.noConfusion
    rw [s.moveHorizon_account.1] at counted
    exact counted
  · rw [s.advanceHorizon_flagSet Flag.noConfusion Flag.noConfusion, flagSet_storeFull_of_flagsAfter s.moveHorizon_account.2]
    rfl
  · simp [Entry.copy, Entry.recordStatus, none]
  · cases st <;> simp [Entry.copy, Entry.recordStatus, answered]
  · simp [Entry.copy, Entry.recordStatus, abandoned]

end Sys2Proof.Machine
end

section
/-! The window's move at a tick (R3, R16): what the horizon's command leaves in the state. -/

-- One theorem after another: side by side they ask for more threads than the check's memory limit allows.
set_option Elab.async false

namespace Sys2Proof.Machine

open Sys2Proof

section

variable {s t : State}

/-! ### The items of the entries that leave -/

/-- An OTT item after entries have left: EXPIRED if it linked to one of them that was OPEN (R16). -/
def OttItem.after (leaving : List Entry) (i : OttItem) : OttItem :=
  if leaving.any (fun e => e.isOpen && e.namedBy i.link) then { i with link := .expired } else i

theorem OttItem.after_cons (e : Entry) (leaving : List Entry) (i : OttItem) :
    i.after (e :: leaving) = OttItem.after leaving (i.after [e]) := by
  have unnamed (f : Entry) : f.namedBy .expired = false := by
    rw [← Bool.not_eq_true, Entry.namedBy_eq_true]
    exact Link.noConfusion
  unfold OttItem.after
  rw [List.any_cons, List.any_cons, List.any_nil, Bool.or_false]
  cases e.isOpen && e.namedBy i.link with
  | false => rfl
  | true => simp [unnamed]

theorem expireEntry_ott_eq_map (s : State) (e : Entry) : (s.expireEntry e).ott = s.ott.map (OttItem.after [e]) := by
  rw [State.expireEntry_ott]
  unfold OttItem.after detached
  cases isOpen : e.isOpen with
  | false => simp [isOpen]
  | true => simp [isOpen]

theorem foldl_expireEntry_ott (leaving : List Entry) (s : State) :
    (leaving.foldl State.expireEntry s).ott = s.ott.map (OttItem.after leaving) := by
  induction leaving generalizing s with
  | nil => exact (List.map_id' s.ott).symm
  | cons e leaving ih =>
    rw [List.foldl_cons, ih, expireEntry_ott_eq_map, List.map_map]
    exact List.map_congr_left (fun i _ => (i.after_cons e leaving).symm)

theorem State.moveHorizon_ott (s : State) : s.moveHorizon.ott =
    s.ott.map (OttItem.after (s.window.filter (fun e => atOrBefore e.reqTick (horizonOf s.tick s.regs.latency)))) := by
  unfold State.moveHorizon
  dsimp only
  rw [State.report_eq]
  unfold State.expire
  rw [foldl_expireEntry_ott]

/-! ### The count that comes with the window's move -/

theorem State.countIf_owed (s : State) (o : CountOrder) : (s.countIf o).owed.horizon = s.owed.horizon ∧
    (s.countIf o).owed.deadlines = s.owed.deadlines ∧ (s.countIf o).owed.choice = s.owed.choice := by
  unfold State.countIf
  split
  · rw [State.countThrottle_owed]
    exact ⟨rfl, rfl, rfl⟩
  · exact ⟨rfl, rfl, rfl⟩

theorem State.moveHorizon_drainTest_owed (s : State) :
    s.moveHorizon.drainTest.owed = { s.owed with horizon := false } := by
  rw [State.drainTest_owed, State.moveHorizon_eq]

theorem State.advanceHorizon_of_other (other : s.owed.count ≠ some .afterExpiry) :
    s.advanceHorizon = s.moveHorizon.drainTest := by
  rw [State.advanceHorizon_eq_moveHorizon]
  refine State.countIf_of_other ?_
  rw [State.moveHorizon_owed_count]
  exact other

theorem State.advanceHorizon_places (s : State) : s.advanceHorizon.horizon = horizonOf s.tick s.regs.latency ∧
    s.advanceHorizon.window = s.moveHorizon.window ∧ s.advanceHorizon.ott = s.moveHorizon.ott := by
  rw [State.advanceHorizon_eq_moveHorizon, State.countIf_eq]
  dsimp only
  rw [State.drainTest_eq]
  dsimp only
  exact ⟨by rw [State.moveHorizon_eq], rfl, rfl⟩

end

/-- Settles O6, by the offers' account and the items of the entries that leave. -/
theorem horizonAdvanceMovesTheWindow : Obligations.HorizonAdvanceMovesTheWindow := by
  unfold Obligations.HorizonAdvanceMovesTheWindow
  refine ⟨fun a b => ?_, fun t f l => ?_, fun s out => ⟨_, exec_horizonAdvance out, ?_⟩⟩
  · exact decide_eq_true_iff
  · exact Bool.and_eq_true_iff
  obtain ⟨horizon, window, ott⟩ := s.advanceHorizon_places
  obtain ⟨taken, deadlines, choice⟩ := s.moveHorizon.drainTest.countIf_owed .afterExpiry
  rw [State.moveHorizon_drainTest_owed, ← State.advanceHorizon_eq_moveHorizon] at taken deadlines choice
  refine ⟨horizon, ?_, ?_, taken, deadlines, choice, fun other => ?_, fun c other count => ?_, fun f full drained count => ?_,
    s.advanceHorizon_eq⟩
  · rw [window, horizon, State.moveHorizon_window]
  · rw [ott, horizon, State.moveHorizon_ott]
    refine List.map_congr_left (fun i _ => ?_)
    rw [OttItem.after, List.any_filter]
    simp only [Bool.and_assoc]
  · rw [State.advanceHorizon_of_other other, State.moveHorizon_drainTest_owed, State.drainTest_eq]
    dsimp only
    rw [State.moveHorizon_eq]
    exact ⟨rfl, rfl, rfl⟩
  · rw [s.advanceHorizon_counters count, s.moveHorizon_account.1]
    cases c with
    | truncatedRecords => exact absurd rfl other
    | _ => rfl
  · rw [s.advanceHorizon_flagSet drained count, flagSet_of_flagsAfter s.moveHorizon_account.2 full]

end Sys2Proof.Machine
end

section
/-! Reset, the control link as a whole, notices, and the end of DRAIN. -/

-- One theorem after another: side by side they ask for more threads than the check's memory limit allows.
set_option Elab.async false

namespace Sys2Proof.Machine

open Sys2Proof

section

variable {s t : State}

/-! ### A frame on the open and on the closed link (R151, R158) -/

theorem exec_link_open {c : Instr} {act : State → State} (runs : exec c s = .next (s.onLink act)) (out : s.rst = false)
    (opened : s.csIgnore = false) : exec c s = .next (act s) := by
  rw [runs, State.onLink_open out opened]

/-- Every frame of the control link is taken through the link. -/
theorem exec_linkFrame {c : Instr} (frame : isLinkFrame c = true) :
    ∃ act : State → State, ∀ s, exec c s = .next (s.onLink act) := by
  cases c with
  | tick | horizonAdvance | decisionDeadline | throttleTimeout | statusFrameDue | requestTaken | requestPassed
  | responseTaken | responsePassed | mrstAssert | mrstRelease | rstNAssert | rstNRelease | lineEdge | itemBegin | itemEnd
  | csNRisesAfterRelease => exact Bool.noConfusion frame
  | _ => exact ⟨_, fun _ => rfl⟩

theorem exec_link_closed {c : Instr} (frame : isLinkFrame c = true) (closed : s.rst = true ∨ s.csIgnore = true) :
    exec c s = .next s := by
  obtain ⟨act, runs⟩ := exec_linkFrame frame
  rw [runs, State.onLink_closed closed]

/-! ### Run Control's test (R176, R177) -/

theorem State.settled_eq_false_iff : s.settled = false ↔ s.window ≠ [] ∨ ∃ k, s.slot k ≠ none := by
  rw [← Bool.not_eq_true, State.settled_iff, not_and_or, not_forall]

theorem State.drainTest_of_settled (drain : s.recState = .drain) (settled : s.settled = true) :
    s.drainTest = { s with recState := .off, flags := s.flags ||| 0x0100 } := by
  rw [State.drainTest, if_pos ⟨drain, settled⟩, State.raise_drained]

theorem State.drainTest_of_other (other : s.recState ≠ .drain) : s.drainTest = s :=
  if_neg (fun both => other both.1)

theorem State.drainTest_of_work (work : s.settled = false) : s.drainTest = s :=
  if_neg (fun both => Bool.noConfusion (work.symm.trans both.2))

theorem State.settled_drainTest (s : State) : s.drainTest.settled = s.settled :=
  State.settled_congr (by rw [State.drainTest_eq]) (by rw [State.drainTest_eq])

/-- Between s and t Run Control has tested DRAIN as its rule asks: it ended exactly where t has nothing left to settle. -/
structure DrainTested (s t : State) : Prop where
  ends : s.recState = .drain → t.settled = true → t.recState = .off ∧ t.flagSet .drained = true
  lasts : s.recState ≠ .drain ∨ t.settled = false → t.recState = s.recState ∧ t.flagSet .drained = s.flagSet .drained

theorem DrainTested.of_drainTest (state : t.recState = s.recState) (flag : t.flagSet .drained = s.flagSet .drained) :
    DrainTested s t.drainTest where
  ends drain settled := by
    have before : t.settled = true := t.settled_drainTest ▸ settled
    rw [State.drainTest, if_pos ⟨state.trans drain, before⟩]
    exact ⟨rfl, State.flagSet_raise_self _ _⟩
  lasts lasts := by
    have same : t.drainTest = t := by
      refine lasts.elim (fun other => State.drainTest_of_other (state ▸ other)) (fun work => State.drainTest_of_work ?_)
      exact t.settled_drainTest ▸ work
    rw [same]
    exact ⟨state, flag⟩

theorem DrainTested.frame {u : State} (tested : DrainTested s t) (state : u.recState = t.recState)
    (flag : u.flagSet .drained = t.flagSet .drained) (window : u.window = t.window) (slots : u.slots = t.slots) :
    DrainTested s u := by
  have settled := State.settled_congr window slots
  exact ⟨fun drain empty => state ▸ flag ▸ tested.ends drain (settled ▸ empty),
    fun lasts => state ▸ flag ▸ tested.lasts (settled ▸ lasts)⟩

theorem DrainTested.lasts_of_live (tested : DrainTested s t) {k : Slot} {l : Live} (live : t.slot k = some l) :
    t.recState = s.recState ∧ t.flagSet .drained = s.flagSet .drained :=
  tested.lasts (.inr (State.settled_eq_false_iff.2 (.inr ⟨k, by rw [live]; exact Option.some_ne_none l⟩)))

theorem DrainTested.refl (work : DrainHasWork s) : DrainTested s s where
  ends drain settled := absurd settled (by rw [State.settled_eq_false_iff.2 (work drain)]; exact Bool.false_ne_true)
  lasts _ := ⟨rfl, rfl⟩

/-! ### The test at the horizon's command and at the deadlines -/

theorem DrainTested.countIf (tested : DrainTested s t) (order : CountOrder) : DrainTested s (t.countIf order) := by
  refine tested.frame (by rw [State.countIf_eq]) ?_ (by rw [State.countIf_eq]) (by rw [State.countIf_eq])
  rw [State.countIf]
  split
  · exact State.flagSet_countThrottle _ Flag.noConfusion
  · rfl

theorem drainTested_advanceHorizon (s : State) : DrainTested s s.advanceHorizon := by
  rw [State.advanceHorizon_eq_moveHorizon]
  refine DrainTested.countIf (.of_drainTest ?_ ?_) _
  · rw [State.moveHorizon_eq]
  · exact flagSet_of_flagsAfter s.moveHorizon_account.2 Flag.noConfusion

theorem State.flagSet_notify (s : State) (n : Notice) {f : Flag} (other : f ≠ .noticeLost) :
    (s.notify n).flagSet f = s.flagSet f := by
  unfold State.notify
  split
  · split
    · exact State.flagSet_congr (by rw [State.rechoose_eq]) f
    · exact State.flagSet_raise_of_ne _ other
  · rfl

theorem State.flagSet_countDiscard (s : State) (reason : DiscardReason) {f : Flag} (other : f ≠ .timeout) :
    (s.countDiscard reason).flagSet f = s.flagSet f := by
  cases reason with
  | cancel => rfl
  | timeout => exact State.flagSet_raise_of_ne _ other

theorem DrainTested.discard (tested : DrainTested s t) {k : Slot} {l : Live} (live : t.slot k = some l) :
    DrainTested s (t.discard k) := by
  obtain ⟨state, flag⟩ := tested.lasts_of_live live
  rw [State.discard, live]
  dsimp only
  refine .of_drainTest (Eq.trans ?_ state) (Eq.trans ?_ flag)
  · rw [State.storeChanged_eq]
    split
    · rfl
    · rfl
  · refine State.flagSet_congr ?_ _
    rw [State.storeChanged_eq]
    split
    · rfl
    · rfl

theorem DrainTested.deadlineSlot (tested : DrainTested s t) (k : Slot) : DrainTested s (t.deadlineSlot k) := by
  unfold State.deadlineSlot
  split
  · exact tested
  next l live =>
    refine kept_ite (DrainTested s) (fun _ => ?_) (fun _ => tested)
    rw [State.discardReported, live]
    refine (tested.discard live).frame ?_ ?_ ?_ ?_
    · dsimp only
      rw [State.notify_eq, State.countDiscard_eq]
    · exact (State.flagSet_notify _ _ Flag.noConfusion).trans (State.flagSet_countDiscard _ _ Flag.noConfusion)
    · dsimp only
      rw [State.notify_eq, State.countDiscard_eq]
    · dsimp only
      rw [State.notify_eq, State.countDiscard_eq]

theorem drainTested_takeDeadlines (work : DrainHasWork s) : DrainTested s s.takeDeadlines := by
  rw [State.takeDeadlines_eq_meetDeadlines]
  refine DrainTested.countIf ?_ _
  unfold State.meetDeadlines
  exact kept_foldl (DrainTested s) (fun k tested => tested.deadlineSlot k) allSlots
    ((DrainTested.refl work).frame rfl rfl rfl rfl)

end

/-! ### The statements -/

/-- Settles O1: reset's values, each computed. -/
theorem resetValues : Obligations.ResetValues := by
  unfold Obligations.ResetValues
  exact ⟨by decide, rfl, rfl, rfl, rfl, State.slot_reset,
    rfl, rfl, rfl, rfl, rfl, rfl, rfl, rfl, rfl, rfl, rfl, rfl, rfl, rfl, rfl⟩

/-- Settles O51: the reset state is empty everywhere. -/
theorem resetIsSound : Obligations.ResetIsSound := by
  unfold Obligations.ResetIsSound
  refine ⟨settingsLegal_reset, rfl, ?_, storeFits_reset, suspensionSound_of_not_suspended, fun _ => ⟨rfl, State.slot_reset⟩,
    drainHasWork_of_not_drain RecState.noConfusion, ?_, parkingSound_of_empty rfl State.slot_reset, ?_, rfl, ?_,
    inTime_iff.2 windowTimed_reset, marksSound_of_empty rfl⟩
  · unfold QueuesFit
    decide
  · exact ⟨fun _ => rfl, fun _ => rfl, fun closed => Bool.noConfusion closed⟩
  · have free {k : Slot} {l : Live} (live : State.reset.slot k = some l) : False :=
      Option.some_ne_none l (live.symm.trans (State.slot_reset k))
    exact ⟨fun _ _ _ _ live => (free live).elim, by decide, fun _ _ live => (free live).elim⟩
  · exact linksSound_iff.2 (linksFit_nil (fun _ none => absurd none List.not_mem_nil))

/-- Settles O11, by what Run Control's test comes to and where the two commands make it. -/
theorem drainEndsWhenBothAreEmpty : Obligations.DrainEndsWhenBothAreEmpty := by
  unfold Obligations.DrainEndsWhenBothAreEmpty
  refine ⟨fun s => ⟨fun drain window free => ?_, fun why => ?_, fun empty => ?_, fun held => ?_⟩, fun s c out runs => ?_⟩
  · exact State.drainTest_of_settled drain (State.settled_iff.2 ⟨window, free⟩)
  · exact why.elim State.drainTest_of_other (fun work => State.drainTest_of_work (State.settled_eq_false_iff.2 work))
  · exact if_pos empty
  · exact if_neg held
  have tested : ∃ t, exec c s = .next t ∧ DrainTested s t := by
    obtain rfl | ⟨rfl, work⟩ := runs
    · exact ⟨_, exec_horizonAdvance out, drainTested_advanceHorizon s⟩
    · exact ⟨_, exec_decisionDeadline out, drainTested_takeDeadlines work⟩
  obtain ⟨t, ran, tested⟩ := tested
  refine ⟨t, ran, fun drain window free => ?_, fun drain work => ?_, fun other => ?_⟩
  · exact tested.ends drain (State.settled_iff.2 ⟨window, free⟩)
  · obtain ⟨state, flag⟩ := tested.lasts (.inr (State.settled_eq_false_iff.2 work))
    exact ⟨state.trans drain, flag⟩
  · exact tested.lasts (.inl other)

/-- Settles O13, by the cases of an offered notice. -/
theorem noticeJoinsOrIsLost : Obligations.NoticeJoinsOrIsLost := by
  unfold Obligations.NoticeJoinsOrIsLost
  intro s n enabled
  have known : s.noticeEnabled n = enabled := by cases n <;> rfl
  refine ⟨fun on room => ?_, fun on full => ?_, fun off => ?_⟩
  · rw [State.notify, if_pos (known.trans on), if_pos room]
  · rw [State.notify, if_pos (known.trans on), if_neg (Nat.not_lt.2 full)]
    rfl
  · rw [State.notify, known, off]
    rfl

/-- Settles O26, by the first assertion and the later ones. -/
theorem mrstAbandonsThePath : Obligations.MrstAbandonsThePath := by
  unfold Obligations.MrstAbandonsThePath
  refine fun s => ⟨fun released => ?_, fun asserted => ?_, rfl⟩
  · have abandon : Entry.abandon = fun e => if e.response = none then { e with response := some .abandoned } else e := by
      funext e
      simp only [Entry.abandon, Entry.isOpen, Option.isNone_iff_eq_none]
    show Host.Outcome.next (if s.mrst then s else _) = _
    rw [released, ← abandon]
    rfl
  · show Host.Outcome.next (if s.mrst then s else _) = _
    rw [asserted]
    rfl

/-- Settles O27: the assertion by definition, the release by whether RST_N stands. -/
theorem deviceResetAndItsRelease : Obligations.DeviceResetAndItsRelease := by
  unfold Obligations.DeviceResetAndItsRelease
  refine fun s => ⟨rfl, fun d a b cs asserted => ?_, fun d a b cs released => ?_⟩
  · show Host.Outcome.next (if s.rst then _ else s) = _
    rw [if_pos asserted]
  · show Host.Outcome.next (if s.rst then _ else s) = _
    rw [if_neg (Bool.eq_false_iff.1 released)]

/-- Settles O28, by the commands that look at RST_N first and the link that is closed. -/
theorem resetAndTheClosedLinkTakeNothing : Obligations.ResetAndTheClosedLinkTakeNothing := by
  unfold Obligations.ResetAndTheClosedLinkTakeNothing
  refine fun s => ⟨fun asserted => ?_, fun c => exec_link_closed, fun released => ?_⟩
  · have still (t : State) : Host.Outcome.next (if s.rst then s else t) = (.next s : Host.Outcome State Fault Refusal) := by
      rw [if_pos asserted]
    exact ⟨fun _ => still _, still _, still _, fun _ _ => still _, still _⟩
  · show Host.Outcome.next (if s.rst then s else _) = _
    rw [if_neg (Bool.eq_false_iff.1 released)]

/-- Settles O40: START by the recorder state, STOP by whether anything is left to settle. -/
theorem startAndStop : Obligations.StartAndStop := by
  unfold Obligations.StartAndStop
  intro s out opened
  have start := exec_link_open (s := s) (c := .start) rfl out opened
  have stop := exec_link_open (s := s) (c := .stop) rfl out opened
  refine ⟨fun off => ?_, fun on => ?_, fun run work => ?_, fun run window free => ?_, fun other => ?_⟩
  · rw [start, if_pos off]
    rfl
  · rw [start, if_neg on]
    rfl
  · have still : ({ s with recState := .drain } : State).drainTest = { s with recState := .drain } :=
      State.drainTest_of_work (State.settled_eq_false_iff.2 work)
    rw [stop, if_pos run, still]
    rfl
  · have ended := State.drainTest_of_settled (s := { s with recState := .drain }) rfl (State.settled_iff.2 ⟨window, free⟩)
    rw [stop, if_pos run, ended]
    rfl
  · rw [stop, if_neg other]
    rfl

/-- Settles O47: each of the three frames is the link error and its answer. -/
theorem linkErrorsReachNothingElse : Obligations.LinkErrorsReachNothingElse := by
  unfold Obligations.LinkErrorsReachNothingElse
  refine fun s out opened => ⟨fun command more => ?_, fun command => ?_, fun bits => ?_⟩
  · have data : zeroData (command :: more) = if command = 0x01 ∨ command = 0x13 ∨ command = 0x30 then [0, 0] else [] := by
      simp only [zeroData, frameData, List.mem_cons, List.not_mem_nil, or_false]
      split
      · rfl
      · rfl
    rw [exec_link_open (c := .badCheckByte (command :: more)) rfl out opened, data]
    rfl
  · exact exec_link_open (c := .unknownCommand command) rfl out opened
  · exact exec_link_open (c := .frameAbort bits) rfl out opened

end Sys2Proof.Machine
end

section
/-! The memory path: what the taking of a request and of a response comes to (R5 to R15, R106 to R117). -/

-- One theorem after another: side by side they ask for more threads than the check's memory limit allows.
set_option Elab.async false

namespace Sys2Proof.Machine

open Sys2Proof

section

variable {s t : State}

/-! ### Hold reasons (R116) -/

theorem State.resetHold_iff : s.resetHold = true ↔ s.rst = true ∨ s.mrst = true :=
  Bool.or_eq_true_iff

theorem State.resetHold_of_released (out : s.rst = false) (released : s.mrst = false) : s.resetHold = false := by
  rw [State.resetHold, out, released, Bool.or_false]

theorem State.windowFull_iff : s.windowFull = true ↔
    s.recState = .run ∧ s.regs.capture.getLsbD 2 = false ∧ 512 ≤ s.window.length := by
  simp only [State.windowFull, policyDrop, Config.windowPlaces, Bool.and_eq_true, beq_iff_eq, Bool.not_eq_true',
    decide_eq_true_eq, and_assoc]

theorem State.throttleHold_iff : s.throttleHold = true ↔ s.recState = .run ∧ s.regs.throttleMark ≠ 0 ∧
    s.freeSlots < s.regs.throttleMark.toNat ∧ s.suspended = false := by
  simp only [State.throttleHold, Bool.and_eq_true, beq_iff_eq, bne_iff_ne, Bool.not_eq_true', decide_eq_true_eq, and_assoc]

theorem State.held_iff : s.held = true ↔ 4 ≤ s.reqQueue.length ∨ 32 ≤ s.ott.length ∨ s.windowFull = true ∨
    s.throttleHold = true ∨ s.resetHold = true := by
  simp only [State.held, State.forwardFull, State.ottFull, Config.forwardPlaces, Config.ottItems, Bool.or_eq_true,
    decide_eq_true_eq, or_assoc]

/-! ### One transfer (R106, R107) -/

theorem State.acceptRequest_of_held (idle : s.uqAssembly = none) (held : s.held = true) (transfer : ReqTransfer) :
    s.acceptRequest transfer = s := by
  unfold State.acceptRequest
  rw [idle]
  cases transfer with
  | header h => exact if_pos held
  | beat b => rfl

theorem State.acceptRequest_of_resetHold (reset : s.resetHold = true) (transfer : ReqTransfer) :
    s.acceptRequest transfer = s := by
  cases idle : s.uqAssembly with
  | none => exact State.acceptRequest_of_held idle (State.held_iff.2 (.inr (.inr (.inr (.inr reset))))) transfer
  | some r =>
    unfold State.acceptRequest
    rw [idle]
    cases transfer with
    | header h => rfl
    | beat b => exact if_pos reset

theorem State.acceptRequest_write (opened : requestOpen s) {h : ReqHeader} (write : h.kind = .write) :
    s.acceptRequest (.header h) = { s with uqAssembly := some ⟨h, []⟩ } := by
  obtain ⟨idle, free⟩ := opened
  unfold State.acceptRequest
  rw [idle]
  dsimp only
  rw [free, write]
  rfl

theorem State.acceptRequest_beat {r : Request} (assembly : s.uqAssembly = some r) (out : s.rst = false)
    (released : s.mrst = false) (b : WriteBeat) : s.acceptRequest (.beat b) =
      if r.header.len ≤ r.beats.length + 1 then
        ({ s with uqAssembly := none } : State).takeRequest ⟨r.header, r.beats ++ [b]⟩
      else { s with uqAssembly := some ⟨r.header, r.beats ++ [b]⟩ } := by
  unfold State.acceptRequest
  rw [assembly]
  dsimp only
  rw [State.resetHold_of_released out released]
  rfl

theorem State.acceptResponse_of_held (held : s.resetHold = true ∨ s.responseRoom = false) (transfer : RespTransfer) :
    s.acceptResponse transfer = s := by
  unfold State.acceptResponse
  refine if_pos ?_
  rw [Bool.or_eq_true, Bool.not_eq_true']
  exact held

/-! ### The taking of a request (R112) -/

theorem State.takeRequest_of_not_run (other : s.recState ≠ .run) (r : Request) : s.takeRequest r =
    { s.openItem r .none with reqQueue := s.reqQueue ++ [r] } := by
  unfold State.takeRequest
  rw [if_neg other]
  rfl

theorem State.takeRequest_of_run (run : s.recState = .run) (r : Request) : s.takeRequest r =
    { s.recordRequest r with reqQueue := s.reqQueue ++ [r] } := by
  unfold State.takeRequest
  rw [if_pos run]
  dsimp only
  rw [State.recordRequest_eq]

/-- The window's side of a taking in RUN: the entry's creation, or the drop (R13). -/
def State.recorded (s : State) (r : Request) : State :=
  if s.window.length < 512 then s.createEntry r else s.dropRequest r

theorem State.recorded_keeps (s : State) (r : Request) : (s.recorded r).regs = s.regs ∧ (s.recorded r).tick = s.tick := by
  unfold State.recorded
  split
  · exact ⟨rfl, rfl⟩
  · rw [State.dropRequest_eq]
    exact ⟨rfl, rfl⟩

theorem State.recordRequest_eq_recorded (s : State) (r : Request) : s.recordRequest r = (s.recorded r).fireMatch r := rfl

theorem State.recordRequest_of_quiet {r : Request} (quiet : matchFires s.regs r.header = false) :
    s.recordRequest r = s.recorded r := by
  obtain ⟨regs, -⟩ := s.recorded_keeps r
  rw [State.recordRequest_eq_recorded, State.fireMatch, regs, quiet]
  exact if_neg Bool.false_ne_true

theorem State.recordRequest_of_fires {r : Request} (fires : matchFires s.regs r.header = true) :
    s.recordRequest r = (s.recorded r).arrive s.matchArrival := by
  obtain ⟨regs, tick⟩ := s.recorded_keeps r
  rw [State.recordRequest_eq_recorded, State.fireMatch, regs, if_pos fires, State.matchArrival, regs, tick, State.matchArrival]

/-- A live entry after a request of the given tick went missing for it, if it collects that tick (R73). -/
def Live.missing (tick : Tick) (l : Live) : Live :=
  if l.collects tick then { l with event := { l.event with missed := satAdd l.event.missed 1 } } else l

theorem State.slot_foldl_addMissed_collectors (tick : Tick) (same : t.slots = s.slots) (k : Slot) :
    ((s.collectors tick).foldl (fun u k => u.addMissed 1 k) t).slot k = (s.slot k).map (Live.missing tick) := by
  have once : (s.collectors tick).Nodup := nodup_allSlots.filter _
  have turn : k ∈ s.collectors tick ↔ (s.slot k).any (fun l => l.collects tick) = true := by
    rw [State.collectors, List.mem_filter]
    exact and_iff_right (mem_allSlots k)
  rw [slot_foldl_addMissed 1 _ once, State.slot_congr same]
  cases live : s.slot k with
  | none => exact ite_self _
  | some l =>
    rw [live] at turn
    cases collects : l.collects tick with
    | true => simp [turn, collects, Live.missing]
    | false => simp [turn, collects, Live.missing]

theorem State.dropRequest_slots (s : State) (r : Request) :
    (s.dropRequest r).slots = s.slots.map (Option.map (Live.missing s.tick)) := by
  refine State.slots_ext (t := { s with slots := s.slots.map (Option.map (Live.missing s.tick)) }) (fun k => ?_)
  have mapped : State.slot { s with slots := s.slots.map (Option.map (Live.missing s.tick)) } k =
      (s.slot k).map (Live.missing s.tick) := by
    simp only [State.slot, Vector.get_eq_getElem, Vector.getElem_map]
  exact (State.slot_foldl_addMissed_collectors s.tick rfl k).trans mapped.symm

theorem State.dropRequest_spelled (s : State) (r : Request) : s.dropRequest r =
    { (({ s.openItem r .none with seq := s.seq + 1 } : State).count .windowDrops).raise .windowDrop with
      slots := (s.dropRequest r).slots } := by
  unfold State.dropRequest
  dsimp only
  rw [foldl_addMissed_eq]

/-! ### The taking of a response (R113) -/

theorem State.takeResponse_of_quiet {ts : List RespTransfer} (quiet : noFault s ts) (paired : s.pair ts = t)
    (state : t.recState = s.recState) (regs : t.regs = s.regs) :
    s.takeResponse ts = { t with respQueue := t.respQueue ++ [ts] } := by
  unfold State.takeResponse
  rw [paired, State.fireFault_of_noFault quiet state regs]

theorem State.pair_append {ts : List RespTransfer} {older newer : List OttItem} {item : OttItem}
    (here : s.ott = older ++ item :: newer) (other : ∀ i ∈ older, i.id ≠ respId ts) (id : item.id = respId ts) :
    s.pair ts = ({ s with ott := older ++ newer } : State).settleLink item ts := by
  unfold State.pair
  rw [here, headItem_append other id, withoutHead_append other id]

theorem State.pair_orphan {ts : List RespTransfer} (unknown : ∀ i ∈ s.ott, i.id ≠ respId ts) :
    s.pair ts = s.orphan ts := by
  unfold State.pair
  rw [headItem_none unknown]

theorem State.settleLink_of_entry {item : OttItem} {q : Word} {p : Nat} (link : item.link = .entry q p)
    (ts : List RespTransfer) :
    s.settleLink item ts = s.fill (.entry q p) ts (decide ((readBeats ts).length ≠ item.expected)) := by
  unfold State.settleLink
  rw [link]

theorem State.settleLink_of_expired {item : OttItem} (link : item.link = .expired) (ts : List RespTransfer) :
    s.settleLink item ts = s.count .lateResponses := by
  unfold State.settleLink
  rw [link]

theorem State.settleLink_of_none {item : OttItem} (link : item.link = .none) (ts : List RespTransfer) :
    s.settleLink item ts = s := by
  unfold State.settleLink
  rw [link]

theorem State.fill_entry (s : State) (q : Word) (p : Nat) (ts : List RespTransfer) (mismatch : Bool) :
    s.fill (.entry q p) ts mismatch =
      { s with window := s.window.map (fun e => if e.seq = q ∧ e.place = p then s.filled e ts mismatch else e) } := by
  unfold State.fill
  simp only [Entry.namedBy_iff]

end

/-! ### The statements -/

/-- Settles O18: outside RUN the taking is the OTT item and the forward queue. -/
theorem requestOutsideRunIsForwardedOnly : Obligations.RequestOutsideRunIsForwardedOnly := by
  unfold Obligations.RequestOutsideRunIsForwardedOnly
  intro s r whole opened other
  rw [exec_requestTaken_whole whole opened, State.takeRequest_of_not_run other]
  rfl

/-- Settles O19: in RUN with a place the taking is the entry's creation. -/
theorem requestInRunMakesAnEntry : Obligations.RequestInRunMakesAnEntry := by
  unfold Obligations.RequestInRunMakesAnEntry
  intro s r whole opened run room quiet
  obtain ⟨low, free⟩ := State.freePlace_spec room
  refine ⟨low, free, ?_⟩
  rw [exec_requestTaken_whole whole opened, State.takeRequest_of_run run, State.recordRequest_of_quiet quiet, State.recorded,
    if_pos room]
  simp only [State.createEntry, State.newEntry]
  rfl

/-- Settles O20: in RUN with the window full the taking is the drop. -/
theorem requestDroppedOnAFullWindow : Obligations.RequestDroppedOnAFullWindow := by
  unfold Obligations.RequestDroppedOnAFullWindow
  intro s r whole opened run full quiet
  rw [exec_requestTaken_whole whole opened, State.takeRequest_of_run run, State.recordRequest_of_quiet quiet,
    State.recorded, if_neg (Nat.not_lt.2 full), State.dropRequest_spelled, State.dropRequest_slots]
  rfl

/-- Settles O21, by the one transfer of each part. -/
theorem writeInAssemblyRunsToItsTaking : Obligations.WriteInAssemblyRunsToItsTaking := by
  unfold Obligations.WriteInAssemblyRunsToItsTaking
  refine fun s => ⟨fun h opened write => ?_, fun r b assembly out released more => ?_, fun r b assembly out released last => ?_⟩
  · exact congrArg Host.Outcome.next (State.acceptRequest_write opened write)
  · refine congrArg Host.Outcome.next ((State.acceptRequest_beat assembly out released b).trans ?_)
    exact if_neg (Nat.not_le.2 more)
  · refine congrArg Host.Outcome.next ((State.acceptRequest_beat assembly out released b).trans ?_)
    exact if_pos last

/-- Settles O22: what is held leaves the state transfer by transfer, and a passed head is the queue's tail. -/
theorem heldTransfersWaitAndHeadsPass : Obligations.HeldTransfersWaitAndHeadsPass := by
  unfold Obligations.HeldTransfersWaitAndHeadsPass
  refine ⟨fun s => ⟨fun ts idle hold => ?_, fun ts reset => ?_, fun ts hold => ?_⟩,
    fun s => ⟨fun r rest here => ?_, fun empty => ?_, fun ts rest here => ?_, fun empty => ?_⟩⟩
  · have held : s.held = true := by
      rw [State.held_iff, State.windowFull_iff, State.throttleHold_iff, State.resetHold_iff]
      tauto
    exact congrArg Host.Outcome.next (List.foldl_fixed' (State.acceptRequest_of_held idle held) ts)
  · have held := State.resetHold_iff.2 reset
    exact congrArg Host.Outcome.next (List.foldl_fixed' (State.acceptRequest_of_resetHold held) ts)
  · have held : s.resetHold = true ∨ s.responseRoom = false := by
      rw [State.resetHold_iff, or_assoc]
      refine hold.imp_right (Or.imp_right (fun ⟨empty, full⟩ => ?_))
      rw [State.responseRoom, empty]
      exact decide_eq_false (Nat.not_lt.2 full)
    exact congrArg Host.Outcome.next (List.foldl_fixed' (State.acceptResponse_of_held held) ts)
  · show Host.Outcome.next { s with reqQueue := s.reqQueue.tail } = _
    rw [here, List.tail_cons]
  · show Host.Outcome.next { s with reqQueue := s.reqQueue.tail } = _
    rw [empty, List.tail_nil, ← empty]
  · show Host.Outcome.next { s with respQueue := s.respQueue.tail } = _
    rw [here, List.tail_cons]
  · show Host.Outcome.next { s with respQueue := s.respQueue.tail } = _
    rw [empty, List.tail_nil, ← empty]

/-- Settles O23, by the link of the item that is paired. -/
theorem responsePairsWithTheOldestOfItsId : Obligations.ResponsePairsWithTheOldestOfItsId := by
  unfold Obligations.ResponsePairsWithTheOldestOfItsId
  intro s ts older newer item whole opened quiet here other id
  have paired := State.pair_append here other id
  rw [exec_responseTaken_whole whole opened]
  refine ⟨fun q p link => ?_, fun link => ?_, fun link => ?_⟩
  · rw [State.settleLink_of_entry link, State.fill_entry] at paired
    rw [State.takeResponse_of_quiet quiet paired rfl rfl]
    rfl
  · rw [State.settleLink_of_expired link] at paired
    rw [State.takeResponse_of_quiet quiet paired rfl rfl]
    rfl
  · rw [State.settleLink_of_none link] at paired
    rw [State.takeResponse_of_quiet quiet paired rfl rfl]

/-- Settles O24: with no item of its ID a response is an orphan. -/
theorem orphanIsCountedNoticedAndForwarded : Obligations.OrphanIsCountedNoticedAndForwarded := by
  unfold Obligations.OrphanIsCountedNoticedAndForwarded
  intro s ts whole opened quiet unknown
  rw [exec_responseTaken_whole whole opened, State.takeResponse_of_quiet quiet (State.pair_orphan unknown)
    (by rw [State.orphan_eq]) (by rw [State.orphan_eq]), show (s.orphan ts).respQueue = s.respQueue by rw [State.orphan_eq]]
  rfl

/-- Settles O25: the request's trigger after its entry or drop, the response's after its pairing. -/
theorem matchAndFaultTriggersArrive : Obligations.MatchAndFaultTriggersArrive := by
  unfold Obligations.MatchAndFaultTriggersArrive
  refine ⟨fun s r whole opened run fires => ?_, fun s ts whole opened run error enabled => ?_⟩
  · have arrival : s.matchArrival = {
        source := .matcher, tag := 255, trigTick := s.tick,
        first := s.tick - (s.regs.matchCfg.extractLsb' 8 3).setWidth 24,
        span := (s.regs.matchCfg.extractLsb' 0 4).toNat, provisional := s.regs.matchCfg.getLsbD 4 } := by
      rw [State.matchArrival, cfgPre, BitVec.ofNat_toNat]
      rfl
    rw [exec_requestTaken_whole whole opened, State.takeRequest_of_run run, State.recordRequest_of_fires fires, arrival]
    rfl
  · have fault : (s.pair ts).fireFault ts = (s.pair ts).arrive s.faultArrival := by
      rw [State.fireFault, State.pair_eq]
      exact if_pos ⟨run, error, enabled⟩
    have queue : ((s.pair ts).arrive s.faultArrival).respQueue = s.respQueue := by
      rw [State.arrive_eq, State.pair_eq]
    rw [exec_responseTaken_whole whole opened, State.takeResponse, fault]
    dsimp only
    rw [queue]
    rfl

end Sys2Proof.Machine
end

section
/-! Trigger arrivals and the decision commands: what an arrival comes to, and which entry a tag's command acts on (R27 to R38,
R45, R55 to R60, R162, R163). -/

-- One theorem after another: side by side they ask for more threads than the check's memory limit allows.
set_option Elab.async false

namespace Sys2Proof.Machine

open Sys2Proof

section

variable {s t : State} {a : Arrival}

/-! ### The checks in their order (R32) -/

theorem State.fate_of_stopped (source : mayMerge a.source = false) (stopped : s.recState ≠ .run) :
    s.fate a = if isLine a.source && s.recState == .off then .ignored else .refused .notRunning := by
  unfold State.fate
  refine if_pos ?_
  rw [source, bne_iff_ne.2 stopped]
  rfl

/-- An arrival that recording does not turn away meets the checks of its tag, of the entries of its source, and of room. -/
theorem State.fate_of_met (met : mayMerge a.source = true ∨ s.recState = .run) : s.fate a =
    if a.source == .command && s.tagHeld a.tag then .refused .tagBusy
    else if mayMerge a.source && s.covered a then .merged
    else match s.lowestFree with
      | none => .refused .tableFull
      | some _ => .admitted := by
  unfold State.fate
  refine if_neg ?_
  rw [Bool.and_eq_true, Bool.not_eq_true', bne_iff_ne]
  rintro ⟨source, stopped⟩
  exact met.elim (fun merge => Bool.noConfusion (source.symm.trans merge)) stopped

/-- What no check before that of room turns away. -/
structure State.Meets (s : State) (a : Arrival) : Prop where
  met : mayMerge a.source = true ∨ s.recState = .run
  unheld : a.source = .command → s.tagHeld a.tag = false
  uncovered : mayMerge a.source = true → s.covered a = false

theorem State.Meets.fate_eq (meets : s.Meets a) : s.fate a =
    match s.lowestFree with
    | none => .refused .tableFull
    | some _ => .admitted := by
  have tag : ¬ (a.source == .command && s.tagHeld a.tag) = true := by
    rw [Bool.and_eq_true, beq_iff_eq, ← Bool.not_eq_false]
    exact fun ⟨command, held⟩ => held (meets.unheld command)
  have source : ¬ (mayMerge a.source && s.covered a) = true := by
    rw [Bool.and_eq_true, ← Bool.not_eq_false (s.covered a)]
    exact fun ⟨merge, covered⟩ => covered (meets.uncovered merge)
  rw [State.fate_of_met meets.met, if_neg tag, if_neg source]

theorem State.Meets.refused (meets : s.Meets a) (full : ∀ k, s.slot k ≠ none) : s.fate a = .refused .tableFull := by
  rw [meets.fate_eq, State.lowestFree_eq_none.2 full]

theorem State.Meets.admitted (meets : s.Meets a) {k : Slot} (lowest : s.lowestFree = some k) : s.fate a = .admitted := by
  rw [meets.fate_eq, lowest]

theorem State.fate_of_busy (command : a.source = .command) (run : s.recState = .run) (held : s.tagHeld a.tag = true) :
    s.fate a = .refused .tagBusy := by
  rw [State.fate_of_met (.inr run), command, held]
  rfl

theorem State.fate_of_covered (merge : mayMerge a.source = true) (covered : s.covered a = true) : s.fate a = .merged := by
  have other : (a.source == Source.command) = false := by
    cases source : a.source with
    | command => rw [source] at merge; exact Bool.noConfusion merge
    | _ => rfl
  rw [State.fate_of_met (.inl merge), other, merge, covered]
  rfl

theorem State.arrive_of_ignored (fate : s.fate a = .ignored) : s.arrive a = s := by
  rw [State.arrive, fate]

theorem State.arrive_of_refused {why : RefuseReason} (fate : s.fate a = .refused why) : s.arrive a = s.refuse a why := by
  rw [State.arrive, fate]

theorem State.arrive_of_merged (fate : s.fate a = .merged) : s.arrive a = s.count .merged := by
  rw [State.arrive, fate]

theorem State.arrive_of_admitted (fate : s.fate a = .admitted) {k : Slot} (lowest : s.lowestFree = some k) :
    s.arrive a = s.admitInto a k := by
  rw [State.arrive, fate]
  dsimp only
  rw [lowest]

/-! ### The sources -/

theorem not_mayMerge_of_line {src : Source} (line : src = .lineA ∨ src = .lineB) : mayMerge src = false := by
  obtain rfl | rfl := line
  · rfl
  · rfl

theorem isLine_of_line {src : Source} (line : src = .lineA ∨ src = .lineB) : isLine src = true := by
  obtain rfl | rfl := line
  · rfl
  · rfl

theorem mayMerge_iff {src : Source} : mayMerge src = true ↔ src = .matcher ∨ src = .fault := by
  rw [mayMerge, Bool.or_eq_true, beq_iff_eq, beq_iff_eq]

theorem State.meets_command (command : a.source = .command) (run : s.recState = .run) (unheld : s.tagHeld a.tag = false) :
    s.Meets a where
  met := .inr run
  unheld _ := unheld
  uncovered merge := by rw [command] at merge; exact Bool.noConfusion merge

theorem State.meets_line (line : a.source = .lineA ∨ a.source = .lineB) (run : s.recState = .run) : s.Meets a where
  met := .inr run
  unheld command := by rw [command] at line; simp at line
  uncovered merge := Bool.noConfusion ((not_mayMerge_of_line line).symm.trans merge)

theorem State.meets_merging (merge : mayMerge a.source = true) (uncovered : s.covered a = false) : s.Meets a where
  met := .inl merge
  unheld command := by rw [command] at merge; exact Bool.noConfusion merge
  uncovered _ := uncovered

/-! ### Admission (R37) -/

theorem State.admitInto_of_command (command : a.source = .command) (k : Slot) :
    s.admitInto a k = (s.setSlot k (some (a.entry a.tag))).markRange k a.first (lastOf a.first a.span) := by
  have plain : takesDeviceTag a.source = false := by rw [command]; rfl
  unfold State.admitInto
  rw [plain]
  rfl

theorem State.admitInto_of_other (other : a.source ≠ .command) (k : Slot) :
    s.admitInto a k = (({ s with deviceTag := nextDeviceTag s.deviceTagFor } : State).setSlot k
      (some (a.entry s.deviceTagFor))).markRange k a.first (lastOf a.first a.span) := by
  have device : takesDeviceTag a.source = true := bne_iff_ne.2 other
  unfold State.admitInto
  rw [device]
  rfl

/-! ### The entry that holds a tag (R25, R55, R59) -/

theorem State.findTag_of_unheld {tag : Tag} (unheld : ∀ k l, s.slot k = some l → l.tag ≠ tag) : s.findTag tag = none :=
  State.findTag_eq_none.2 unheld

theorem exec_confirm_of_unheld (out : s.rst = false) (opened : s.csIgnore = false) {tag : Tag}
    (unheld : ∀ k l, s.slot k = some l → l.tag ≠ tag) :
    exec (.confirm tag) s = .next (s.reply (.confirm tag) .noTag []) := by
  rw [exec_link_open (c := .confirm tag) rfl out opened, State.confirmStatus, State.findTag_of_unheld unheld]
  rfl

theorem exec_confirm_of_live (out : s.rst = false) (opened : s.csIgnore = false) (tags : TagsSound s) {k : Slot} {l : Live}
    (live : s.slot k = some l) : exec (.confirm l.tag) s =
      .next ((s.confirmSlot k).reply (.confirm l.tag) (if l.provisional then .ok else .notProvisional) []) := by
  rw [exec_link_open (c := .confirm l.tag) rfl out opened, State.confirmStatus, State.findTag_of_live tags live,
    Option.bind_some, live]

theorem exec_cancel_of_unheld (out : s.rst = false) (opened : s.csIgnore = false) {tag : Tag}
    (unheld : ∀ k l, s.slot k = some l → l.tag ≠ tag) :
    exec (.cancel tag) s = .next (s.reply (.cancel tag) .noTag []) := by
  rw [exec_link_open (c := .cancel tag) rfl out opened, State.cancelStatus, State.findTag_of_unheld unheld]
  rfl

theorem State.cancelStatus_of_live (tags : TagsSound s) {k : Slot} {l : Live} (live : s.slot k = some l) :
    s.cancelStatus l.tag = if l.state = .parked then .tooLate else .ok := by
  rw [State.cancelStatus, State.findTag_of_live tags live, Option.bind_some, live]
  cases state : l.state with
  | _ => simp [state]

theorem exec_cancel_of_live (out : s.rst = false) (opened : s.csIgnore = false) (tags : TagsSound s) {k : Slot} {l : Live}
    (live : s.slot k = some l) : exec (.cancel l.tag) s =
      .next (if l.state = .parked then s.reply (.cancel l.tag) .tooLate []
        else (s.discardReported k .cancel).reply (.cancel l.tag) .ok []) := by
  rw [exec_link_open (c := .cancel l.tag) rfl out opened, State.findTag_of_live tags live, State.cancelStatus_of_live tags live]
  by_cases parked : l.state = .parked
  · simp only [if_pos parked]
    rfl
  · simp only [if_neg parked]
    rfl

theorem exec_queryTag_of_unheld (out : s.rst = false) (opened : s.csIgnore = false) {tag : Tag}
    (unheld : ∀ k l, s.slot k = some l → l.tag ≠ tag) :
    exec (.queryTag tag) s = .next (s.reply (.queryTag tag) .ok [0, 0]) := by
  rw [exec_link_open (c := .queryTag tag) rfl out opened, State.queryData, State.findTag_of_unheld unheld]
  rfl

theorem exec_queryTag_of_live (out : s.rst = false) (opened : s.csIgnore = false) (tags : TagsSound s) {k : Slot} {l : Live}
    (live : s.slot k = some l) : exec (.queryTag l.tag) s =
      .next (s.reply (.queryTag l.tag) .ok [l.state.code, BitVec.ofNat 8 l.event.records.length]) := by
  rw [exec_link_open (c := .queryTag l.tag) rfl out opened, State.queryData, State.findTag_of_live tags live,
    Option.bind_some, live]

/-! ### What a CONFIRM does to its entry (R56, R57) -/

theorem State.confirmSlot_of_decided {k : Slot} {l : Live} (live : s.slot k = some l)
    (decided : l.provisional = false ∨ l.confirmed = true ∨ l.state = .parked) : s.confirmSlot k = s := by
  unfold State.confirmSlot
  rw [live]
  dsimp only
  split
  next undecided =>
    rw [Bool.and_eq_true, Bool.not_eq_true'] at undecided
    obtain ⟨provisional, open_⟩ := undecided
    obtain not | confirmed | parked := decided
    · exact Bool.noConfusion (not.symm.trans provisional)
    · exact Bool.noConfusion (open_.symm.trans confirmed)
    · rw [parked]
  next => rfl

theorem State.confirmSlot_of_undecided {k : Slot} {l : Live} (live : s.slot k = some l) (provisional : l.provisional = true)
    (unconfirmed : l.confirmed = false) : s.confirmSlot k =
      match l.state with
      | .collecting => s.setSlot k (some { l with confirmed := true })
      | .held _ => ((s.setSlot k (some { l with confirmed := true })).handOn k).drainTest
      | .parked => s := by
  unfold State.confirmSlot
  rw [live]
  dsimp only
  rw [provisional, unconfirmed]
  rfl

theorem State.handOn_setSlot_of_room (room : s.queue.length < 32) (k : Slot) (l : Live) : (s.setSlot k (some l)).handOn k =
    (({ s with queue := s.queue ++ [l.completed] } : State).setSlot k none).rechoose := by
  have place : (s.setSlot k (some l)).queueRoom = true := State.queueRoom_iff.2 room
  rw [State.handOn, if_pos place, State.handOver, State.slot_setSlot_self]
  exact congrArg State.rechoose (State.setSlot_setSlot { s with queue := s.queue ++ [l.completed] } k (some l) none)

theorem State.handOn_setSlot_of_full (full : 32 ≤ s.queue.length) (k : Slot) (l : Live) : (s.setSlot k (some l)).handOn k =
    ({ s with parking := s.parking ++ [k] } : State).setSlot k (some { l with state := .parked }) := by
  have none : ¬ (s.setSlot k (some l)).queueRoom = true := fun room => Nat.not_lt.2 full (State.queueRoom_iff.1 room)
  rw [State.handOn, if_neg none, State.park, State.slot_setSlot_self]
  exact State.setSlot_setSlot { s with parking := s.parking ++ [k] } k (some l) (some { l with state := .parked })

/-! ### A TRIGGER's arguments (R30) -/

theorem triggerArgsOk_iff {tag : Tag} {control : Byte} : triggerArgsOk tag control = true ↔
    tag < 192 ∧ 1 ≤ (control.extractLsb' 0 4).toNat ∧ (control.extractLsb' 0 4).toNat ≤ 8 ∧ control.extractLsb' 5 3 = 0 := by
  simp only [triggerArgsOk, Bool.and_eq_true, decide_eq_true_eq, beq_iff_eq, and_assoc]
  exact Iff.rfl

end

/-! ### The statements -/

/-- Settles O29, by the level before and the line's enable. -/
theorem lineEdgeArrives : Obligations.LineEdgeArrives := by
  unfold Obligations.LineEdgeArrives
  intro s out
  have edge (line : TrigLine) (sample : Bool) : exec (.lineEdge line sample) s = .next (
      if sample && !s.lineLevel line && cfgEnable (s.lineCfg line) then (s.sampled line sample).arrive (s.lineArrival line)
      else s.sampled line sample) := by
    show Host.Outcome.next (if s.rst then s else _) = _
    rw [out]
    rfl
  have still (line : TrigLine) (b : Bool) (why : b = false ∨ s.lineLevel line = true ∨ cfgEnable (s.lineCfg line) = false) :
      (b && !s.lineLevel line && cfgEnable (s.lineCfg line)) = false := by
    obtain low | high | off := why
    · rw [low]; rfl
    · rw [high, Bool.not_true, Bool.and_false]; rfl
    · rw [off, Bool.and_false]
  refine ⟨fun low enabled => ?_, fun low enabled => ?_, fun b why => ?_, fun b why => ?_⟩
  · have rises : (true && !s.lineLevel .trgA && cfgEnable (s.lineCfg .trgA)) = true := by
      simp only [State.lineLevel, State.lineCfg, cfgEnable, low, enabled, Bool.not_false, Bool.and_true]
    rw [edge, rises]
    rfl
  · have rises : (true && !s.lineLevel .trgB && cfgEnable (s.lineCfg .trgB)) = true := by
      simp only [State.lineLevel, State.lineCfg, cfgEnable, low, enabled, Bool.not_false, Bool.and_true]
    rw [edge, rises]
    rfl
  · rw [edge, still .trgA b why]
    rfl
  · rw [edge, still .trgB b why]
    rfl

/-- Settles O30, check by check. -/
theorem arrivalTurnedAwayInOrder : Obligations.ArrivalTurnedAwayInOrder := by
  unfold Obligations.ArrivalTurnedAwayInOrder
  intro s a refusal held covered full
  have merging (source : a.source = .matcher ∨ a.source = .fault) := mayMerge_iff.2 source
  refine ⟨fun line off => ?_, fun line drain => ?_, fun command stopped => ?_, fun command run held => ?_,
    fun command run unheld full => ?_, fun line run full => ?_, fun source covered => ?_, fun source uncovered full => ?_⟩
  · refine State.arrive_of_ignored ((State.fate_of_stopped (not_mayMerge_of_line line) ?_).trans ?_)
    · rw [off]; exact RecState.noConfusion
    · rw [isLine_of_line line, off]
      rfl
  · refine State.arrive_of_refused ((State.fate_of_stopped (not_mayMerge_of_line line) ?_).trans ?_)
    · rw [drain]; exact RecState.noConfusion
    · rw [drain, Bool.and_comm]
      rfl
  · refine State.arrive_of_refused ((State.fate_of_stopped ?_ stopped).trans ?_)
    · rw [command]; rfl
    · rw [command]
      rfl
  · exact State.arrive_of_refused (State.fate_of_busy command run (State.tagHeld_iff.2 held))
  · refine State.arrive_of_refused ((State.meets_command command run ?_).refused full)
    exact Bool.eq_false_iff.2 (fun held => unheld (State.tagHeld_iff.1 held))
  · exact State.arrive_of_refused ((State.meets_line line run).refused full)
  · exact State.arrive_of_merged (State.fate_of_covered (merging source) (State.covered_iff.2 covered))
  · refine State.arrive_of_refused ((State.meets_merging (merging source) ?_).refused full)
    exact Bool.eq_false_iff.2 (fun covered => uncovered (State.covered_iff.1 covered))

/-- Settles O31: what meets the checks is admitted, with the command's tag or the next device tag. -/
theorem arrivalAdmittedIntoTheLowestFreeSlot : Obligations.ArrivalAdmittedIntoTheLowestFreeSlot := by
  unfold Obligations.ArrivalAdmittedIntoTheLowestFreeSlot
  intro s a k free below why
  have lowest : s.lowestFree = some k := State.lowestFree_eq_some.2 ⟨free, below⟩
  have meets : s.Meets a := by
    obtain ⟨command, run, unheld⟩ | ⟨line, run⟩ | ⟨source, apart⟩ := why
    · refine State.meets_command command run (Bool.eq_false_iff.2 (fun held => ?_))
      obtain ⟨j, l, live, same⟩ := State.tagHeld_iff.1 held
      exact unheld j l live same
    · exact State.meets_line line run
    · refine State.meets_merging (mayMerge_iff.2 source) (Bool.eq_false_iff.2 (fun covered => ?_))
      obtain ⟨j, l, live, same, collecting, inside⟩ := State.covered_iff.1 covered
      exact Bool.noConfusion (inside.symm.trans (apart j l live same collecting))
  rw [State.arrive_of_admitted (meets.admitted lowest) lowest]
  by_cases command : a.source = .command
  · simp only [if_pos command]
    rw [State.admitInto_of_command command]
    rfl
  · simp only [if_neg command]
    rw [State.admitInto_of_other command]
    rfl

/-- Settles O32: sixteen live entries leave one of seventeen tags free. -/
theorem deviceTagIsTheNextFreeOne : Obligations.DeviceTagIsTheNextFreeOne := by
  unfold Obligations.DeviceTagIsTheNextFreeOne
  intro s device candidate
  obtain ⟨n, soon, found, free, passed⟩ := State.deviceTagFor_spec device
  refine ⟨n, soon, found, fun k l live same => ?_, fun m before => State.tagHeld_iff.1 (passed m before)⟩
  exact Bool.noConfusion (free.symm.trans (State.tagHeld_iff.2 ⟨k, l, live, same⟩))

/-- Settles O33: the arguments, then the fate of the arrival. -/
theorem triggerCommandArrives : Obligations.TriggerCommandArrives := by
  unfold Obligations.TriggerCommandArrives
  intro s tag control out opened span good
  have runs := exec_link_open (s := s) (c := .trigger tag control) rfl out opened
  refine ⟨fun bad => ?_, fun fine => ⟨(s.fate (s.commandArrival tag control)).status, ?_, fun stopped => ?_,
    fun run held => ?_, fun run unheld full => ?_, fun run unheld room => ?_⟩⟩
  · rw [runs, if_neg (fun ok => bad (triggerArgsOk_iff.1 ok))]
    rfl
  · rw [runs, if_pos (triggerArgsOk_iff.2 fine)]
    rfl
  · rw [State.fate_of_stopped rfl stopped]
    rfl
  · rw [State.fate_of_busy rfl run (State.tagHeld_iff.2 held)]
    rfl
  all_goals
    have free : s.tagHeld tag = false := by
      refine Bool.eq_false_iff.2 (fun held => ?_)
      obtain ⟨j, l, live, same⟩ := State.tagHeld_iff.1 held
      exact unheld j l live same
    have meets : s.Meets (s.commandArrival tag control) := State.meets_command rfl run free
  · rw [meets.refused full]
    rfl
  · obtain ⟨k, lowest⟩ : ∃ k, s.lowestFree = some k := by
      rw [← Option.ne_none_iff_exists']
      exact fun none => room.elim (State.lowestFree_eq_none.1 none)
    rw [meets.admitted lowest]
    rfl

/-- Settles O34, by the entry's part in R55 and the room of the Event Queue. -/
theorem confirmByTheEntryOfTheTag : Obligations.ConfirmByTheEntryOfTheTag := by
  unfold Obligations.ConfirmByTheEntryOfTheTag
  refine fun s tag out opened tags => ⟨exec_confirm_of_unheld out opened, fun k l live same => ?_⟩
  subst same
  have runs := exec_confirm_of_live out opened tags live
  refine ⟨fun not => ?_, fun provisional decided => ?_, fun provisional unconfirmed collecting => ?_,
    fun d provisional unconfirmed held room => ?_, fun d provisional unconfirmed held full => ?_⟩
  · rw [runs, State.confirmSlot_of_decided live (.inl not), not]
    rfl
  · rw [runs, State.confirmSlot_of_decided live (.inr decided), provisional]
    rfl
  · rw [runs, State.confirmSlot_of_undecided live provisional unconfirmed, collecting, provisional]
    rfl
  · rw [runs, State.confirmSlot_of_undecided live provisional unconfirmed, held, provisional]
    dsimp only
    rw [State.handOn_setSlot_of_room room]
    rfl
  · rw [runs, State.confirmSlot_of_undecided live provisional unconfirmed, held, provisional]
    dsimp only
    rw [State.handOn_setSlot_of_full full,
      State.drainTest_of_live (k := k) (by rw [State.slot_setSlot_self]; exact Option.some_ne_none _)]
    rfl

/-- Settles O35, by the entry that holds the tag. -/
theorem cancelAndQueryByTheEntryOfTheTag : Obligations.CancelAndQueryByTheEntryOfTheTag := by
  unfold Obligations.CancelAndQueryByTheEntryOfTheTag
  refine ⟨fun s tag out opened tags => ⟨exec_cancel_of_unheld out opened, fun k l live same => ?_⟩,
    fun s tag out opened tags => ⟨exec_queryTag_of_unheld out opened, fun k l live same => ?_⟩⟩
  · subst same
    have runs := exec_cancel_of_live out opened tags live
    refine ⟨fun parked => ?_, fun unparked => ?_⟩
    · rw [runs, if_pos parked]
      rfl
    · rw [runs, if_neg unparked]
      rfl
  · subst same
    rw [exec_queryTag_of_live out opened tags live]
    rfl

end Sys2Proof.Machine
end

section
/-! The flushes: what each selection leaves in the state, spelled out (R22, R48, R85, R148, R165, R166). -/

-- One theorem after another: side by side they ask for more threads than the check's memory limit allows.
set_option Elab.async false

namespace Sys2Proof.Machine

open Sys2Proof

/-! ### Operations that meet each slot once -/

/-- An operation that rewrites the content of the slot it meets and no other, met once by each slot of a list. -/
theorem slot_foldl_own {op : State → Slot → State} {f : Slot → Option Live → Option Live} {holds : State → Prop}
    (keeps : ∀ u k, holds u → holds (op u k))
    (own : ∀ u k j, holds u → (op u k).slot j = if j = k then f k (u.slot k) else u.slot j)
    {l : List Slot} (once : l.Nodup) {s : State} (start : holds s) (j : Slot) :
    (l.foldl op s).slot j = if j ∈ l then f j (s.slot j) else s.slot j := by
  induction l generalizing s with
  | nil => simp
  | cons k l ih =>
    obtain ⟨new, once⟩ := List.nodup_cons.1 once
    rw [List.foldl_cons, ih once (keeps s k start), own s k j start]
    by_cases here : j = k
    · subst here
      simp [new]
    · simp [here]

theorem State.slot_ofFn (s : State) (f : Slot → Option Live) (k : Slot) :
    State.slot { s with slots := Vector.ofFn f } k = f k := by
  simp only [State.slot, Vector.get_eq_getElem, Vector.getElem_ofFn]

/-- Each slot of the table met once. -/
theorem slots_foldl_own {op : State → Slot → State} {f : Slot → Option Live → Option Live} {holds : State → Prop}
    (keeps : ∀ u k, holds u → holds (op u k))
    (own : ∀ u k j, holds u → (op u k).slot j = if j = k then f k (u.slot k) else u.slot j) {s : State} (start : holds s) :
    (allSlots.foldl op s).slots = Vector.ofFn (fun k => f k (s.slot k)) := by
  refine State.slots_ext (t := { s with slots := Vector.ofFn (fun k => f k (s.slot k)) }) (fun k => ?_)
  rw [slot_foldl_own keeps own nodup_allSlots start, if_pos (mem_allSlots k), State.slot_ofFn]

section

variable {s t : State}

/-! ### FLUSH WINDOW (R22, R73) -/

/-- A slot's content charged for flushed entries. -/
def chargedFor (marked : Slot → Nat) (k : Slot) (o : Option Live) : Option Live :=
  o.map (fun l => if l.state = .collecting then
    { l with event := { l.event with missed := satAdd l.event.missed (marked k) } } else l)

theorem slot_chargeFlush (marked : Slot → Nat) (s : State) (k j : Slot) :
    (chargeFlush marked s k).slot j = if j = k then chargedFor marked k (s.slot k) else s.slot j := by
  unfold chargeFlush
  cases live : s.slot k with
  | none =>
    by_cases here : j = k
    · subst here
      simp [live, chargedFor]
    · simp [here]
  | some l =>
    dsimp only
    split
    next collecting =>
      rw [State.addMissed, live]
      dsimp only
      rw [State.slot_setSlot]
      simp [chargedFor, collecting]
    next other =>
      by_cases here : j = k
      · subst here
        simp [live, chargedFor, other]
      · simp [here]

theorem State.flushWindow_spelled (s : State) : s.flushWindow = { s with
    window := [], ott := s.ott.map OttItem.unlink,
    slots := Vector.ofFn (fun k => chargedFor s.markedCount k (s.slot k)) } := by
  unfold State.flushWindow
  rw [foldl_chargeFlush_eq, slots_foldl_own (holds := fun _ => True) (fun _ _ _ => trivial)
    (fun u k j _ => slot_chargeFlush s.markedCount u k j) trivial]
  rfl

/-! ### FLUSH TRIGGERS (R48, R87) -/

theorem State.slot_flushSlot (s : State) (k j : Slot) :
    (s.flushSlot k).slot j = if j = k then none else s.slot j := by
  unfold State.flushSlot
  cases live : s.slot k with
  | none =>
    by_cases here : j = k
    · subst here
      simp [live]
    · simp [here]
  | some l =>
    dsimp only
    rw [State.slot_setSlot, State.slot_unmarkIf]

/-- The slot is COLLECTING. -/
def State.collecting (s : State) (k : Slot) : Bool := (s.slot k).any (fun l => l.state == .collecting)

/-- An entry without the marks of some slots. -/
def Entry.without (p : Slot → Bool) (e : Entry) : Entry := { e with marks := e.marks.filter (fun k => !p k) }

theorem Entry.without_without (p q : Slot → Bool) (e : Entry) :
    (e.without p).without q = e.without (fun k => p k || q k) := by
  simp [Entry.without, List.filter_filter, Bool.not_or, Bool.and_comm]

theorem Entry.without_none (e : Entry) : e.without (fun _ => false) = e := by
  simp [Entry.without]

theorem State.map_without_none (s : State) : s.window.map (Entry.without (fun _ => false)) = s.window :=
  (List.map_congr_left (fun e _ => Entry.without_none e)).trans (List.map_id' s.window)

theorem State.flushSlot_window (s : State) (k : Slot) :
    (s.flushSlot k).window = s.window.map (Entry.without (fun j => j == k && s.collecting k)) := by
  have none (here : s.collecting k = false) :
      s.window = s.window.map (Entry.without (fun j => j == k && s.collecting k)) := by
    simp only [here, Bool.and_false]
    exact s.map_without_none.symm
  unfold State.flushSlot
  cases live : s.slot k with
  | none => exact none (by rw [State.collecting, live]; rfl)
  | some l =>
    by_cases collecting : l.state = .collecting
    · have here : s.collecting k = true := by
        rw [State.collecting, live]
        exact beq_iff_eq.2 collecting
      rw [here]
      dsimp only
      rw [if_pos collecting]
      refine List.map_congr_left (fun e _ => ?_)
      simp only [Entry.unmark, Entry.without, Bool.and_true, bne]
    · dsimp only
      rw [if_neg collecting]
      refine none ?_
      rw [State.collecting, live]
      exact beq_eq_false_iff_ne.2 collecting

theorem foldl_flushSlot_window (l : List Slot) (once : l.Nodup) (s : State) : (l.foldl State.flushSlot s).window =
    s.window.map (Entry.without (fun j => l.contains j && s.collecting j)) := by
  induction l generalizing s with
  | nil =>
    exact s.map_without_none.symm
  | cons k l ih =>
    obtain ⟨new, once⟩ := List.nodup_cons.1 once
    rw [List.foldl_cons, ih once, State.flushSlot_window, List.map_map]
    refine List.map_congr_left (fun e _ =>
      (Entry.without_without _ _ e).trans (congrArg (Entry.without · e) (funext fun j => ?_)))
    rw [List.contains_cons, State.collecting, State.collecting, State.collecting, State.slot_flushSlot]
    by_cases here : j = k
    · subst here
      simp [new]
    · simp [here, beq_false_of_ne here]

theorem foldl_flushSlot_slots (s : State) : (allSlots.foldl State.flushSlot s).slots = Vector.replicate 16 none := by
  refine (slots_foldl_own (f := fun _ _ => none) (holds := fun _ => True) (fun _ _ _ => trivial)
    (fun u k j _ => u.slot_flushSlot k j) trivial).trans ?_
  decide

theorem State.freeSlots_of_free (free : ∀ k, s.slot k = none) : s.freeSlots = 1024 - s.queueRecords := by
  have build : s.buildRecords = 0 := by
    unfold State.buildRecords
    refine List.sum_eq_zero (fun n mem => ?_)
    obtain ⟨k, -, rfl⟩ := List.mem_map.1 mem
    rw [free k]
  rw [State.freeSlots, build, Nat.zero_add]

theorem State.flushTriggers_spelled (s : State) : s.flushTriggers = { s with
    slots := Vector.replicate 16 none, parking := [],
    window := s.window.map (Entry.without s.collecting),
    suspended := s.suspended && decide (s.queueRecords ≠ 0) } := by
  have window : (allSlots.foldl State.flushSlot s).window = s.window.map (Entry.without s.collecting) := by
    rw [foldl_flushSlot_window allSlots nodup_allSlots]
    refine List.map_congr_left (fun e _ => congrArg (Entry.without · e) (funext fun j => ?_))
    rw [List.contains_iff_mem.2 (mem_allSlots j), Bool.true_and]
  unfold State.flushTriggers
  rw [foldl_flushSlot_eq, foldl_flushSlot_slots, window]
  have free (u : State) (slots : u.slots = Vector.replicate 16 none) : u.freeSlots = 1024 - u.queueRecords :=
    State.freeSlots_of_free (fun k => (State.slot_congr slots k).trans (State.slot_reset k))
  rw [State.storeChanged, free]
  · show (if 1024 - s.queueRecords = 1024 then _ else _) = _
    by_cases empty : s.queueRecords = 0
    · rw [if_pos (by rw [empty]), empty]
      simp
    · rw [if_neg (by omega)]
      simp [empty]
  · rfl

/-! ### A choice made again after changes (R129) -/

theorem State.rechoose_of_framer (s : State) (f : Framer) (sends : (∃ item, s.framer = .sending item) → f = s.framer)
    (boundary : (∀ item, s.framer ≠ .sending item) → ∀ item, f ≠ .sending item) :
    ({ s with framer := f } : State).rechoose = s.rechoose := by
  by_cases sending : ∃ item, s.framer = .sending item
  · rw [sends sending]
  · have idle : ∀ item, s.framer ≠ .sending item := fun item now => sending ⟨item, now⟩
    rw [State.rechoose_of_not_sending idle, State.rechoose_of_not_sending (s := { s with framer := f }) (boundary idle),
      State.offer_framer]

theorem State.rechoose_not_sending (boundary : ∀ item, s.framer ≠ .sending item) (item : Item) :
    s.rechoose.framer ≠ .sending item := by
  rw [State.rechoose_of_not_sending boundary, State.offer]
  dsimp only
  split
  · exact Framer.noConfusion
  · exact Framer.noConfusion

/-- A choice on the way is made anew by the last one. -/
theorem State.rechoose_after_rechoose (s t : State) (same : s.framer = t.framer) :
    ({ s with framer := t.rechoose.framer } : State).rechoose = s.rechoose := by
  refine s.rechoose_of_framer _ (fun ⟨item, sending⟩ => ?_) (fun boundary => ?_)
  · rw [State.rechoose_of_sending (same ▸ sending), same]
  · exact State.rechoose_not_sending (same ▸ boundary)

theorem State.stored_rechoose (s : State) : s.rechoose.stored = s.stored :=
  State.stored_congr (by rw [State.rechoose_eq]) (by rw [State.rechoose_eq])

/-! ### The freed places in turn (R82) -/

/-- The parking list served as far as the places go: the served entries' events stand at the tail of the queue. -/
def State.serve (s : State) (l : List Slot) : State :=
  let served := l.take (32 - s.queue.length)
  { s with
    queue := s.queue ++ served.filterMap (fun k => (s.slot k).map Live.completed),
    parking := l.drop (32 - s.queue.length),
    slots := Vector.ofFn (fun k => if k ∈ served then none else s.slot k) }

theorem State.slots_eq_ofFn (s : State) : s.slots = Vector.ofFn s.slot := by
  refine State.slots_ext (t := { s with slots := Vector.ofFn s.slot }) (fun k => ?_)
  rw [State.slot_ofFn]

theorem State.serve_of_none {l : List Slot} (list : s.parking = l) (served : l.take (32 - s.queue.length) = [])
    (waiting : l.drop (32 - s.queue.length) = l) : s.serve l = s := by
  have slots : (fun k => if k ∈ ([] : List Slot) then none else s.slot k) = s.slot :=
    funext (fun k => if_neg List.not_mem_nil)
  unfold State.serve
  dsimp only
  rw [served, waiting, List.filterMap_nil, List.append_nil, slots, ← s.slots_eq_ofFn, ← list]

theorem State.serve_of_full {l : List Slot} (list : s.parking = l) (full : ¬ s.queue.length < 32) : s.serve l = s := by
  have places : 32 - s.queue.length = 0 := by omega
  refine State.serve_of_none list ?_ ?_
  · rw [places, List.take_zero]
  · rw [places, List.drop_zero]

theorem State.serve_rechoose (s : State) (l : List Slot) :
    s.rechoose.serve l = { s.serve l with framer := s.rechoose.framer } := by
  rw [State.rechoose_eq]
  rfl

theorem State.serve_storeChanged (s : State) (l : List Slot) :
    s.storeChanged.serve l = { s.serve l with suspended := s.storeChanged.suspended } := by
  rw [State.storeChanged_eq]
  rfl

/-- The list's head has handed its event over. -/
def State.servedHead (s : State) (k : Slot) (l : Live) (rest : List Slot) : State :=
  ({ s with parking := rest, queue := s.queue ++ [l.completed] } : State).setSlot k none

theorem State.serve_cons {k : Slot} {l : Live} {rest : List Slot} (live : s.slot k = some l) (room : s.queue.length < 32)
    (new : k ∉ rest) : (s.servedHead k l rest).serve rest = s.serve (k :: rest) := by
  obtain ⟨n, places⟩ : ∃ n, 32 - s.queue.length = n + 1 := ⟨31 - s.queue.length, by omega⟩
  have after : 32 - (s.servedHead k l rest).queue.length = n := by
    simp only [State.servedHead, State.setSlot, List.length_append, List.length_singleton]
    omega
  have slot (j : Slot) : (s.servedHead k l rest).slot j = if j = k then none else s.slot j := State.slot_setSlot _ _ _ _
  have others : (rest.take n).filterMap (fun j => ((s.servedHead k l rest).slot j).map Live.completed) =
      (rest.take n).filterMap (fun j => (s.slot j).map Live.completed) := by
    refine List.filterMap_congr (fun j mem => ?_)
    have other : j ≠ k := fun same => new (same ▸ List.mem_of_mem_take mem)
    rw [slot, if_neg other]
  have slots : (fun j => if j ∈ rest.take n then none else (s.servedHead k l rest).slot j) =
      fun j => if j ∈ (k :: rest).take (n + 1) then none else s.slot j := by
    funext j
    rw [slot, List.take_succ_cons]
    by_cases here : j = k
    · simp [here]
    · simp [here]
  unfold State.serve
  dsimp only
  rw [after, others, slots, places, List.take_succ_cons, List.drop_succ_cons, List.filterMap_cons, live, Option.map_some,
    List.append_cons]
  rfl

/-- The parking list served, and the choice then made anew. -/
theorem serveParking_rechoose (l : List Slot) (once : l.Nodup) (list : s.parking = l) (live : ∀ k ∈ l, s.slot k ≠ none) :
    (serveParking l s).rechoose = (s.serve l).rechoose := by
  induction l generalizing s with
  | nil => rw [State.serve_of_none list List.take_nil List.drop_nil, serveParking]
  | cons k rest ih =>
    obtain ⟨new, once⟩ := List.nodup_cons.1 once
    rw [serveParking]
    split
    next room =>
      rw [State.queueRoom_iff] at room
      obtain ⟨l, here⟩ := Option.ne_none_iff_exists'.1 (live k List.mem_cons_self)
      have head : ({ s with parking := rest } : State).handOver k = (s.servedHead k l rest).rechoose := by
        have same : ({ s with parking := rest } : State).slot k = some l := here
        rw [State.handOver, same]
        rfl
      have slots : (s.servedHead k l rest).rechoose.slots = (s.servedHead k l rest).slots := by rw [State.rechoose_eq]
      rw [head, ih once (by rw [State.rechoose_eq]; rfl) (fun j mem => ?_), ← State.serve_cons here room new]
      · rw [State.serve_rechoose]
        exact State.rechoose_after_rechoose ((s.servedHead k l rest).serve rest) (s.servedHead k l rest) rfl
      · have other : j ≠ k := fun same => new (same ▸ mem)
        rw [State.slot_congr slots, State.servedHead, State.slot_setSlot_ne _ _ other]
        exact live j (List.mem_cons_of_mem _ mem)
    next full => rw [State.serve_of_full list (fun room => full (State.queueRoom_iff.2 room))]

theorem State.placesFreed_rechoose (once : s.parking.Nodup) (live : ∀ k ∈ s.parking, s.slot k ≠ none) :
    s.placesFreed.rechoose = (s.serve s.parking).rechoose :=
  serveParking_rechoose s.parking once rfl live

end

/-! ### The statements -/

/-- Settles O41, by the selection byte; the five rows are its single selections. -/
theorem flushCarriesOutItsSelections : Obligations.FlushCarriesOutItsSelections := by
  unfold Obligations.FlushCarriesOutItsSelections
  intro s sel out opened
  have runs (sel : Byte) := exec_link_open (s := s) (c := .flush sel) rfl out opened
  have single (sel : Byte) (ok : flushArgOk sel = true) {c : Instr} {flushed : State}
      (ran : exec c s = .next (flushed.drainTest.reply c .ok [])) (selected : s.flushSelected sel = flushed)
      (frame : linkFrame c = linkFrame (.flush sel)) : exec c s = exec (.flush sel) s := by
    rw [runs sel, if_pos ok, selected, ran, State.reply, State.reply, frame]
  have ok_iff : flushArgOk sel = true ↔ sel.extractLsb' 5 3 = 0 := beq_iff_eq
  refine ⟨fun bad => ?_, fun good => ?_, ?_, ?_, ?_, ?_, ?_⟩
  · rw [runs sel, if_neg (mt ok_iff.1 bad)]
    rfl
  · rw [runs sel, if_pos (ok_iff.2 good)]
    rfl
  · exact single 0x01 rfl (exec_link_open (c := .flushWindow) rfl out opened) s.flushSelected_window rfl
  · exact single 0x02 rfl (exec_link_open (c := .flushTriggers) rfl out opened) s.flushSelected_triggers rfl
  · exact single 0x04 rfl (exec_link_open (c := .flushEvents) rfl out opened) s.flushSelected_events rfl
  · exact single 0x08 rfl (exec_link_open (c := .flushNotices) rfl out opened) s.flushSelected_notices rfl
  · exact single 0x10 rfl (exec_link_open (c := .flushCounters) rfl out opened) s.flushSelected_counters rfl

/-- Settles O42, by what the flush leaves in the window, the items and the slots. -/
theorem flushWindowCountsTheMarkedAsMissed : Obligations.FlushWindowCountsTheMarkedAsMissed := by
  unfold Obligations.FlushWindowCountsTheMarkedAsMissed
  intro s out opened
  have unlink : OttItem.unlink = fun i => match i.link with
      | .entry _ _ => { i with link := .none }
      | _ => i := by
    funext i
    unfold OttItem.unlink
    cases i.link with
    | _ => rfl
  rw [exec_link_open (c := .flushWindow) rfl out opened, State.flushWindow_spelled, unlink]
  rfl

/-- Settles O43, by what the flush leaves in the table and the marks. -/
theorem flushTriggersFreesTheTable : Obligations.FlushTriggersFreesTheTable := by
  unfold Obligations.FlushTriggersFreesTheTable
  intro s out opened
  rw [exec_link_open (c := .flushTriggers) rfl out opened, State.flushTriggers_spelled]
  rfl

/-- Settles O44: the freed places go to the parking list, whose entries are live. -/
theorem flushEventsServesTheParkingList : Obligations.FlushEventsServesTheParkingList := by
  unfold Obligations.FlushEventsServesTheParkingList
  intro s out opened sound kept served flushed
  have live : ∀ k ∈ s.parking, s.slot k ≠ none := by
    intro k mem
    obtain ⟨l, here, -⟩ := (sound.exact.2 k).1 mem
    rw [here]
    exact Option.some_ne_none l
  have once : s.parking.Nodup := sound.exact.1
  have places : ({ s with queue := kept } : State).serve s.parking = flushed := rfl
  have store : flushed.freeSlots = State.freeSlots { s with queue := kept } := by
    have moved := serveParking_rechoose (s := { s with queue := kept }) s.parking once rfl live
    rw [places] at moved
    have stored : flushed.stored = State.stored { s with queue := kept } := by
      rw [← flushed.stored_rechoose, ← moved, State.stored_rechoose, serveParking_stored]
    exact congrArg (Config.recordSlots - ·) stored
  have changed : ({ s with queue := kept } : State).storeChanged.serve s.parking = flushed.storeChanged := by
    rw [State.serve_storeChanged, places, State.storeChanged, State.storeChanged, store]
    split
    · rfl
    · rfl
  have served : s.flushEvents = flushed.storeChanged.rechoose := by
    have parking : ({ s with queue := kept } : State).storeChanged.parking = s.parking := by rw [State.storeChanged_eq]
    have slots : ({ s with queue := kept } : State).storeChanged.slots = s.slots := by rw [State.storeChanged_eq]
    have unfolded : s.flushEvents = ({ s with queue := kept } : State).storeChanged.placesFreed.rechoose := rfl
    generalize State.storeChanged { s with queue := kept } = u at changed parking slots unfolded
    rw [unfolded, ← changed, ← parking]
    refine State.placesFreed_rechoose ?_ (fun k mem => ?_)
    · rw [parking]
      exact once
    · rw [State.slot_congr slots]
      exact live k (parking ▸ mem)
  rw [exec_link_open (c := .flushEvents) rfl out opened, served]
  rfl

/-- Settles O45, by whether a notice is being sent. -/
theorem flushNoticesAndFlushCounters : Obligations.FlushNoticesAndFlushCounters := by
  unfold Obligations.FlushNoticesAndFlushCounters
  intro s out opened
  have runs := exec_link_open (s := s) (c := .flushNotices) rfl out opened
  refine ⟨fun n sending => ?_, fun boundary => ?_, fun c => ?_, exec_link_open (c := .flushCounters) rfl out opened⟩
  · have now : s.sendingNotice = true := by rw [State.sendingNotice, sending]
    rw [runs, State.flushNotices, now, State.rechoose_of_sending (item := .notice n) (by exact sending)]
    rfl
  · have none : s.sendingNotice = false := by
      unfold State.sendingNotice
      split
      next n sending => exact absurd sending (boundary n)
      next => rfl
    rw [runs, State.flushNotices, none]
    rfl
  · cases c with
    | _ => rfl

end Sys2Proof.Machine
end

section
/-! The Output Framer: what begins and ends as an item, and when a status frame is offered (R79 to R82, R128 to R149). -/

-- One theorem after another: side by side they ask for more threads than the check's memory limit allows.
set_option Elab.async false

namespace Sys2Proof.Machine

open Sys2Proof

section

variable {s t : State}

/-! ### The choice with nothing waiting -/

theorem State.choose_of_nothingWaiting (out : s.rst = false) (between : s.inTransmission = false) (quiet : s.notices = [])
    (closed : s.burst = none) (empty : s.queue = []) : s.choose = if s.statusDue then some .status else none := by
  cases restart : s.restart with
  | false => rw [State.choose_of_not_restart out between restart, State.boundaryChoice_of_nothingWaiting quiet closed empty]
  | true =>
    rw [State.choose_of_restart out between restart]
    split
    next due => exact State.restartChoice_of_noticeOrDue (.inr due)
    next notDue => rw [State.restartChoice_of_noNotice_notDue quiet notDue, if_pos empty]

/-- The tick's choice is no longer owed (log 2). -/
def State.choiceTaken (s : State) : State := { s with owed := { s.owed with choice := false } }

theorem exec_statusFrameDue (s : State) : exec .statusFrameDue s = .next s.choiceTaken.rechoose := rfl

/-! ### An item begins (R128) -/

theorem exec_itemBegin_of_offering {c : Choice} {item : Item} (offers : s.framer = .offering c)
    (content : s.itemOf c = some item) : exec .itemBegin s = .next (s.beginItem item) := by
  show Host.Outcome.next (match s.framer with
    | .offering c => _
    | .idle => s
    | .sending _ => s) = _
  rw [offers]
  dsimp only
  rw [content]

theorem exec_itemBegin_of_nothing (nothing : s.framer = .idle ∨ ∃ item, s.framer = .sending item) :
    exec .itemBegin s = .next s := by
  show Host.Outcome.next (match s.framer with
    | .offering c => _
    | .idle => s
    | .sending _ => s) = _
  obtain idle | ⟨item, sending⟩ := nothing
  · rw [idle]
  · rw [sending]

/-! ### An item ends (R128) -/

/-- The framer has sent its last byte and has not chosen again. -/
def State.resting (s : State) : State := { s with framer := .idle }

theorem exec_itemEnd_of_sending {item : Item} (sends : s.framer = .sending item) :
    exec .itemEnd s = .next (s.resting.ended item).offer := by
  show Host.Outcome.next (match s.framer with
    | .sending item => (State.ended { s with framer := .idle } item).offer
    | .idle => s
    | .offering _ => s) = _
  rw [sends]
  rfl

theorem exec_itemEnd_of_nothing (nothing : s.framer = .idle ∨ ∃ c, s.framer = .offering c) :
    exec .itemEnd s = .next s := by
  show Host.Outcome.next (match s.framer with
    | .sending item => _
    | .idle => s
    | .offering _ => s) = _
  obtain idle | ⟨c, offers⟩ := nothing
  · rw [idle]
  · rw [offers]

theorem State.resting_offer (s : State) : s.resting.offer = s.offer := s.offer_framer .idle

theorem State.offer_drainTest_framer (s : State) (f : Framer) :
    ({ s with framer := f } : State).drainTest.offer = s.drainTest.offer := by
  rw [State.drainTest_with_framer, State.offer_framer]

theorem State.offer_storeChanged_framer (s : State) (f : Framer) :
    ({ s with framer := f } : State).storeChanged.drainTest.offer = s.storeChanged.drainTest.offer := by
  rw [State.storeChanged_with_framer, State.offer_drainTest_framer]

theorem State.headSent_of_queue {e : Event} {rest : List Event} (head : s.queue = e :: rest) :
    s.headSent = e.records.isEmpty := by
  rw [State.headSent, head]
  rfl

/-! ### An event leaves the queue (R81, R82, R136) -/

/-- The head event has left the queue and is counted; its place is still free. -/
def State.headLeft (s : State) : State :=
  State.count { s with
    queue := s.queue.tail, inTransmission := false, prevAddr := none, burst := s.burst.map Burst.counted } .eventsSent

theorem State.eventLeaves_of_noParking (none : s.parking = []) : s.eventLeaves = s.headLeft.drainTest := by
  have places : s.headLeft.placesFreed = s.headLeft := by
    have parking : s.headLeft.parking = [] := none
    rw [State.placesFreed, parking, serveParking]
  exact congrArg State.drainTest places

/-- The place of an event that leaves a full queue goes to the head of the parking list (R82). -/
theorem State.eventLeaves_of_parked {k : Slot} {waiting : List Slot} {l : Live} (full : s.queue.length = 32)
    (list : s.parking = k :: waiting) (live : s.slot k = some l) :
    s.eventLeaves.offer = (s.headLeft.servedHead k l waiting).drainTest.offer := by
  have room : s.headLeft.queue.length = 31 := by
    show s.queue.tail.length = 31
    rw [List.length_tail, full]
  have after : (s.headLeft.servedHead k l waiting).rechoose.queueRoom = false := by
    rw [← Bool.not_eq_true, State.queueRoom_iff, State.rechoose_queue]
    show ¬ (s.headLeft.queue ++ [l.completed]).length < 32
    rw [List.length_append, room, List.length_singleton]
    decide
  have head : ({ s.headLeft with parking := waiting } : State).handOver k = (s.headLeft.servedHead k l waiting).rechoose := by
    have same : ({ s.headLeft with parking := waiting } : State).slot k = some l := live
    rw [State.handOver, same]
    rfl
  have places : s.headLeft.placesFreed = (s.headLeft.servedHead k l waiting).rechoose := by
    have parking : s.headLeft.parking = k :: waiting := list
    rw [State.placesFreed, parking, serveParking, if_pos (State.queueRoom_iff.2 (by rw [room]; decide)), head]
    cases waiting with
    | nil => rw [serveParking]
    | cons j more => rw [serveParking, after]; rfl
  show s.headLeft.placesFreed.drainTest.offer = _
  rw [places, State.rechoose_eq, State.offer_drainTest_framer]

/-! ### The records' account while an event leaves (R80, R183) -/

theorem State.storeChanged_congr (same : t.freeSlots = s.freeSlots) :
    t.storeChanged = { t with suspended := if s.freeSlots = 1024 then false else t.suspended } := by
  unfold State.storeChanged
  rw [same]
  split
  · rfl
  · rfl

theorem State.headLeft_freeSlots {e : Event} {rest : List Event} (head : s.queue = e :: rest) (sent : e.records = []) :
    s.headLeft.freeSlots = s.freeSlots := by
  have records : s.headLeft.queueRecords = s.queueRecords := by
    show (s.queue.tail.map _).sum = _
    rw [State.queueRecords, head, List.tail_cons, List.map_cons, sent, List.sum_cons, List.length_nil, Nat.zero_add]
  have build : s.headLeft.buildRecords = s.buildRecords := State.buildRecords_congr rfl
  rw [State.freeSlots, build, records, State.freeSlots]

theorem State.storeChanged_headLeft {e : Event} {rest : List Event} (head : s.queue = e :: rest) (sent : e.records = []) :
    s.storeChanged.headLeft = s.headLeft.storeChanged := by
  rw [State.storeChanged_congr (State.headLeft_freeSlots head sent), State.storeChanged]
  split
  · rfl
  · rfl

theorem State.servedHead_freeSlots {k : Slot} {l : Live} (live : s.slot k = some l) (rest : List Slot) :
    (s.servedHead k l rest).freeSlots = s.freeSlots := by
  have head : ({ s with parking := rest } : State).handOver k = (s.servedHead k l rest).rechoose := by
    have same : ({ s with parking := rest } : State).slot k = some l := live
    rw [State.handOver, same]
    rfl
  have stored : (s.servedHead k l rest).stored = s.stored := by
    rw [← State.stored_rechoose, ← head, State.handOver_stored]
    exact State.stored_congr
  exact congrArg (Config.recordSlots - ·) stored

theorem State.storeChanged_servedHead {k : Slot} {l : Live} (live : s.slot k = some l) (rest : List Slot) :
    s.storeChanged.servedHead k l rest = (s.servedHead k l rest).storeChanged := by
  rw [State.storeChanged_congr (State.servedHead_freeSlots live rest), State.storeChanged]
  split
  · rfl
  · rfl

theorem State.headLeft_of_queue {e : Event} {rest : List Event} (head : s.queue = e :: rest) : s.headLeft = { s with
    queue := rest, inTransmission := false, prevAddr := none, burst := s.burst.map Burst.counted,
    counters := s.counters.bump .eventsSent } := by
  unfold State.headLeft State.count
  rw [head]
  rfl

/-! ### The ends of an event's items -/

/-- The head event of the queue with the records it still has to send. -/
def State.withHead (s : State) (e : Event) (rest : List Event) (records : List Record) : State :=
  { s with queue := { e with records := records } :: rest }

theorem State.freeRecord_of_queue {e : Event} {rest : List Event} {r : Record} {more : List Record}
    (head : s.queue = e :: rest) (records : e.records = r :: more) :
    s.freeRecord = (s.withHead e rest more).storeChanged := by
  unfold State.freeRecord
  rw [head, dropHeadRecord, records, List.tail_cons]
  rfl

theorem State.storeChanged_slot (s : State) (k : Slot) : s.storeChanged.slot k = s.slot k :=
  State.slot_congr (by rw [State.storeChanged_eq]) k

theorem State.ended_record_of_more {r : Record} {o : BitVec 3} {a : AddrForm} {e : Event} {rest : List Event}
    {r1 r2 : Record} {more : List Record} (head : s.queue = e :: rest) (records : e.records = r1 :: r2 :: more) :
    s.ended (.record r o a) = (s.withHead e rest (r2 :: more)).storeChanged := by
  have freed := State.freeRecord_of_queue head records
  have waits : s.freeRecord.headSent = false := by
    rw [State.headSent_of_queue (rest := rest) (e := { e with records := r2 :: more })]
    · rfl
    · rw [freed, State.storeChanged_queue]
      rfl
  show (if s.freeRecord.headSent then _ else s.freeRecord) = _
  rw [waits, ← freed]
  rfl

theorem State.ended_record_of_last {r : Record} {o : BitVec 3} {a : AddrForm} {e : Event} {rest : List Event}
    {r1 : Record} (head : s.queue = e :: rest) (records : e.records = [r1]) :
    s.ended (.record r o a) = (s.withHead e rest []).storeChanged.eventLeaves := by
  have freed := State.freeRecord_of_queue head records
  have sent : s.freeRecord.headSent = true := by
    rw [State.headSent_of_queue (rest := rest) (e := { e with records := [] })]
    · rfl
    · rw [freed, State.storeChanged_queue]
      rfl
  show (if s.freeRecord.headSent then s.freeRecord.eventLeaves else _) = _
  rw [sent, ← freed]
  rfl

theorem State.ended_header_of_records {h : EventHeader} {e : Event} {rest : List Event} (head : s.queue = e :: rest)
    (records : e.records ≠ []) : s.ended (.eventHeader h) = s := by
  show (if s.headSent then _ else s) = _
  rw [State.headSent_of_queue head, List.isEmpty_eq_false_iff.2 records]
  rfl

theorem State.ended_header_of_none {h : EventHeader} {e : Event} {rest : List Event} (head : s.queue = e :: rest)
    (records : e.records = []) : s.ended (.eventHeader h) = s.eventLeaves := by
  show (if s.headSent then s.eventLeaves else _) = _
  rw [State.headSent_of_queue head, records]
  rfl

end

/-! ### The statements -/

/-- Settles O14, by the choice with nothing waiting. -/
theorem statusFrameIsOfferedWhenDue : Obligations.StatusFrameIsOfferedWhenDue := by
  unfold Obligations.StatusFrameIsOfferedWhenDue
  intro s out between quiet closed empty
  have choice := State.choose_of_nothingWaiting (s := s.choiceTaken) out between quiet closed empty
  have due_iff : s.choiceTaken.statusDue = true ↔ s.regs.statusPeriod ≠ 0 ∧ s.regs.statusPeriod ≤ s.statusTimer :=
    State.statusDue_iff s.choiceTaken
  refine ⟨fun boundary on due => ?_, fun boundary notDue => ?_, fun item sending => ?_⟩
  · rw [if_pos (due_iff.2 ⟨on, due⟩)] at choice
    rw [exec_statusFrameDue, State.rechoose_of_not_sending (s := s.choiceTaken) boundary, State.offer_of_choose_some choice]
    rfl
  · have idle : ¬ s.choiceTaken.statusDue = true := by
      rw [due_iff]
      exact fun ⟨on, due⟩ => notDue.elim on (BitVec.not_lt.2 due)
    rw [if_neg idle] at choice
    rw [exec_statusFrameDue, State.rechoose_of_not_sending (s := s.choiceTaken) boundary, State.offer_of_choose_none choice]
    rfl
  · rw [exec_statusFrameDue, State.rechoose_of_sending (s := s.choiceTaken) (item := item) sending]
    rfl

/-- Settles O15, by the item that each choice begins. -/
theorem itemBeginsAsOffered : Obligations.ItemBeginsAsOffered := by
  unfold Obligations.ItemBeginsAsOffered
  refine fun s => ⟨fun n rest offers waits => ?_, fun b offers burst => ?_, fun e rest offers head => ?_,
    fun e rest r more offers head records => ?_, fun offers => ?_, fun offers => ?_, exec_itemBegin_of_nothing⟩
  · exact exec_itemBegin_of_offering (item := .notice n) offers (by rw [State.itemOf, waits]; rfl)
  · exact exec_itemBegin_of_offering (item := .burstClose b.number b.events) offers (by rw [State.itemOf, burst]; rfl)
  · exact exec_itemBegin_of_offering (item := .eventHeader e.header) offers (by rw [State.itemOf, head]; rfl)
  · refine exec_itemBegin_of_offering (item := recordItem e.first s.prevAddr r) offers ?_
    rw [State.itemOf, head, List.head?_cons, Option.bind_some, records]
    rfl
  · exact exec_itemBegin_of_offering offers rfl
  · exact exec_itemBegin_of_offering offers rfl

/-- Settles O16, by the item that ends; an event that leaves is its record's slot, its place and the parking list's head. -/
theorem itemEndsWithItsEffect : Obligations.ItemEndsWithItsEffect := by
  unfold Obligations.ItemEndsWithItsEffect
  refine ⟨fun s => ⟨fun n sends => ?_, fun n c sends => ?_, fun d n t sends => ?_, fun f sends => ?_,
    fun h e rest sends head records => ?_, fun r o a e rest r1 r2 others sends head records => ?_,
    fun h e rest sends head records none => ?_, fun r o a e rest r1 sends head records none => ?_,
    exec_itemEnd_of_nothing⟩, ?_⟩
  · rw [exec_itemEnd_of_sending sends]
    exact congrArg Host.Outcome.next (State.resting_offer { s with notices := s.notices.tail })
  · rw [exec_itemEnd_of_sending sends]
    exact congrArg Host.Outcome.next (State.resting_offer { s with burst := none })
  · rw [exec_itemEnd_of_sending sends]
    exact congrArg Host.Outcome.next s.resting_offer
  · rw [exec_itemEnd_of_sending sends]
    exact congrArg Host.Outcome.next s.resting_offer
  · rw [exec_itemEnd_of_sending sends, State.ended_header_of_records (s := s.resting) head records, State.resting_offer]
  · have more := State.ended_record_of_more (s := s.resting) (r := r) (o := o) (a := a) head records
    have framer := (s.withHead e rest (r2 :: others)).storeChanged_with_framer .idle
    rw [exec_itemEnd_of_sending sends, more]
    refine congrArg Host.Outcome.next ((congrArg State.offer framer).trans ?_)
    exact State.offer_framer _ _
  · have leaves := State.eventLeaves_of_noParking (s := s.resting) none
    rw [exec_itemEnd_of_sending sends, State.ended_header_of_none (s := s.resting) head records, leaves]
    refine congrArg Host.Outcome.next ((s.headLeft.offer_drainTest_framer .idle).trans ?_)
    rw [State.headLeft_of_queue head]
    rfl
  · have parking : (s.resting.withHead e rest []).storeChanged.parking = [] :=
      (State.storeChanged_parking _).trans none
    have changed := State.storeChanged_headLeft (s := s.resting.withHead e rest []) (rest := rest) rfl rfl
    rw [exec_itemEnd_of_sending sends, State.ended_record_of_last (s := s.resting) head records,
      State.eventLeaves_of_noParking parking, changed]
    exact congrArg Host.Outcome.next ((s.withHead e rest []).headLeft.offer_storeChanged_framer .idle)
  intro s e rest k waiting l head full list live left
  refine ⟨fun h sends records => ?_, fun r o a r1 sends records => ?_⟩
  · have leaves := State.eventLeaves_of_parked (s := s.resting) full list live
    have here : s.headLeft.servedHead k l waiting = left := by
      rw [State.headLeft_of_queue head]
      rfl
    rw [exec_itemEnd_of_sending sends, State.ended_header_of_none (s := s.resting) head records, leaves, ← here]
    exact congrArg Host.Outcome.next ((s.headLeft.servedHead k l waiting).offer_drainTest_framer .idle)
  · have length : (s.resting.withHead e rest []).storeChanged.queue.length = 32 := by
      rw [State.storeChanged_queue, ← full, head]
      rfl
    have parking : (s.resting.withHead e rest []).storeChanged.parking = k :: waiting :=
      (State.storeChanged_parking _).trans list
    have slot : (s.resting.withHead e rest []).storeChanged.slot k = some l := (State.storeChanged_slot _ k).trans live
    have leaves := State.eventLeaves_of_parked length parking slot
    have changed := State.storeChanged_headLeft (s := s.resting.withHead e rest []) (rest := rest) rfl rfl
    have served := State.storeChanged_servedHead (s := (s.resting.withHead e rest []).headLeft) (l := l) live waiting
    rw [exec_itemEnd_of_sending sends, State.ended_record_of_last (s := s.resting) head records, leaves, changed, served]
    exact congrArg Host.Outcome.next (((s.withHead e rest []).headLeft.servedHead k l waiting).offer_storeChanged_framer .idle)

end Sys2Proof.Machine
end

section
/-! The bytes of the trace items (11.4, R130 to R142). -/

-- One theorem after another: side by side they ask for more threads than the check's memory limit allows.
set_option Elab.async false

namespace Sys2Proof.Machine

open Sys2Proof

/-! ### The check byte (R130) -/

theorem byteSum_withCheckByte (bytes : List Byte) : byteSum (withCheckByte bytes) = 0 := by
  have last : byteSum (bytes ++ [- byteSum bytes]) = byteSum bytes + - byteSum bytes := by
    rw [byteSum, List.foldl_append]
    rfl
  rw [withCheckByte, last, ← BitVec.sub_eq_add_neg, BitVec.sub_self]
  rfl

theorem Item.length_bytes (i : Item) : i.bytes.length = i.body.length + 1 := by
  rw [Item.bytes, withCheckByte, List.length_append, List.length_singleton]

theorem length_toList_latency {α : Type} (o : Option α) : o.toList.length = if o.isSome then 1 else 0 := by
  cases o with
  | none => rfl
  | some a => rfl

theorem AddrForm.length_bytes (form : AddrForm) : form.bytes.length = if form.isFull then 4 else 2 := by
  cases form with
  | full a => rfl
  | delta d => rfl

/-- A record's bytes before its check byte, by its optional parts (11.4). -/
theorem length_record_body (r : Record) (offset : BitVec 3) (form : AddrForm) :
    (Item.record r offset form).body.length = 6 + (if form.isFull then 4 else 2) + (if r.latency.isSome then 1 else 0)
      + (if r.data.digest.isSome then 2 else 0) + (if r.data.firstBeat.isSome then 8 else 0) := by
  simp only [Item.body, List.length_append, AddrForm.length_bytes, length_toList_latency]
  cases r.data.digest with
  | _ =>
    cases r.data.firstBeat with
    | _ => simp [bytes2, bytes4, bytes8]

/-! ### The coded bytes (11.4) -/

theorem RecordStatus.code_toNat (st : RecordStatus) : st.code.toNat = match st with
    | .opened => 0
    | .okay => 1
    | .error => 2
    | .abandoned => 3 := by
  cases st with
  | _ => rfl

theorem Source.code_setWidth (src : Source) : src.code.setWidth 8 = BitVec.ofNat 8 src.code.toNat := by
  rw [BitVec.ofNat_toNat]

theorem kindBit_toNat (k : Kind) : (kindBit k).toNat = if k == .write then 1 else 0 := by
  cases k with
  | _ => rfl

theorem respStatusBit_toNat (st : RespStatus) : (respStatusBit st).toNat = if st == .error then 1 else 0 := by
  cases st with
  | _ => rfl

/-! ### Differences of addresses (R133) -/

/-- A difference that fits 16 bits comes back from its 16 bits. -/
theorem signExtend_setWidth_of_fits {d : Addr} (low : -32768 ≤ d.toInt) (high : d.toInt ≤ 32767) :
    (d.setWidth 16).signExtend 32 = d := by
  refine BitVec.eq_of_toInt_eq ?_
  rw [BitVec.toInt_signExtend_of_le (by decide), BitVec.toInt_setWidth]
  have cut : (d.toNat : Int).bmod (2 ^ 16) = d.toInt.bmod (2 ^ 16) := by
    rw [BitVec.toInt_eq_toNat_bmod, Int.bmod_bmod_of_dvd (by decide)]
  rw [cut]
  exact Int.bmod_eq_of_le (by omega) (by omega)

/-- Settles O17: the check byte, the lengths, the fields in order, and the address forms. -/
theorem itemBytesSumToZero : Obligations.ItemBytesSumToZero := by
  unfold Obligations.ItemBytesSumToZero
  refine ⟨⟨fun i => byteSum_withCheckByte i.body, fun _ _ _ => rfl, fun _ _ => rfl, fun _ => rfl, fun r o a => ?_,
    fun _ _ _ _ => rfl, fun _ _ _ _ => rfl, fun _ _ _ => rfl, fun _ => rfl⟩, fun i => ?_, fun a => rfl, fun p a => ⟨?_, ?_⟩⟩
  · rw [Item.length_bytes, length_record_body]
    omega
  · intro two three four bit source
    have sources (src : Source) : source src = src.code.toNat := by
      cases src with
      | _ => rfl
    rw [Item.bytes_dropLast]
    cases i with
    | burstOpen device number tick =>
      simp only [Item.body, BitVec.ofNat_toNat]
      rfl
    | burstClose number events => rfl
    | eventHeader h =>
      simp only [sources, Item.body, headerFlags_eq]
      rfl
    | record r offset form =>
      simp only [Item.body, recordFlags_eq, idByte_eq, lengthByte_eq, kindBit_toNat, RecordStatus.code_toNat,
        bytes8, bytes4_eq]
      cases form with
      | full a =>
        rw [AddrForm.bytes, bytes4_eq]
        rfl
      | delta d => rfl
    | notice n =>
      cases n with
      | skip src tag reason tick =>
        simp only [sources, Item.body, Source.code_setWidth]
        cases reason with
        | _ => rfl
      | discard tag reason freed tick =>
        cases reason with
        | _ => rfl
      | orphan id st tick =>
        simp only [Item.body, orphanByte_eq, respStatusBit_toNat]
        cases st with
        | _ => rfl
    | status f =>
      simp only [Item.body, statusByte_eq]
      cases f.recState with
      | _ => rfl
  · rintro ⟨low, high⟩
    refine ⟨if_pos ⟨low, high⟩, ?_⟩
    rw [signExtend_setWidth_of_fits low high, BitVec.add_comm, BitVec.sub_add_cancel]
  · exact fun far => if_neg far

end Sys2Proof.Machine
end

section
/-! The frames of the control link: what is read from what was written, and what MISO shows (R151 to R156); and the data parts
(R10, R11). -/

-- One theorem after another: side by side they ask for more threads than the check's memory limit allows.
set_option Elab.async false

namespace Sys2Proof.Machine

open Sys2Proof

/-! ### A frame read (R152, R153) -/

/-- A frame whose sum is zero is its command, whatever bytes follow. -/
theorem decodeFrame_withCheckByte {c : Byte} {args : List Byte} (length : args.length = frameArgs c) (after : List Byte) :
    decodeFrame (withCheckByte (c :: args) ++ after) = decodeCommand c args := by
  have sum := byteSum_withCheckByte (c :: args)
  rw [withCheckByte, List.cons_append] at sum ⊢
  generalize - byteSum (c :: args) = check at sum ⊢
  have whole : (args ++ [check] ++ after).take (frameArgs c + 1) = args ++ [check] := by
    rw [← length]
    exact List.take_left' (by rw [List.length_append, List.length_singleton])
  have enough : ¬ (args ++ [check] ++ after).length < frameArgs c + 1 := by
    rw [← length, List.length_append, List.length_append, List.length_singleton]
    omega
  have arguments : (args ++ [check] ++ after).take (frameArgs c) = args := by
    rw [List.append_assoc]
    exact List.take_left' length
  rw [List.cons_append, decodeFrame, if_neg enough, whole, arguments]
  exact if_neg (not_not.2 sum)

/-- A frame of its command's length whose sum is not zero is itself. -/
theorem decodeFrame_of_badSum {c : Byte} {rest : List Byte} (length : rest.length = frameArgs c + 1)
    (bad : byteSum (c :: rest) ≠ 0) (after : List Byte) :
    decodeFrame (c :: rest ++ after) = some (.badCheckByte (c :: rest)) := by
  have whole : (rest ++ after).take (frameArgs c + 1) = rest := List.take_left' length
  have enough : ¬ (rest ++ after).length < frameArgs c + 1 := by
    rw [List.length_append]
    omega
  rw [List.cons_append, decodeFrame, if_neg enough, whole]
  exact if_pos bad

/-- A step's frame is a command byte with its arguments and the check byte, which the frame is read as again. -/
structure FrameOf (i : Instr) (c : Byte) (args : List Byte) : Prop where
  written : encodeFrame i = some (withCheckByte (c :: args))
  length : args.length = frameArgs c
  read : decodeCommand c args = some (frameRow i)

theorem append_extractLsb' (v : Word) : (v.extractLsb' 8 8 ++ v.extractLsb' 0 8 : Word) = v := by
  have joined : (v.extractLsb' 8 8 ++ v.extractLsb' 0 8 : Word) = v.extractLsb' 0 16 :=
    BitVec.extractLsb'_append_extractLsb'_eq_extractLsb' (w := 16) (len₁ := 8) (start₁ := 0) (start₂ := 8) rfl
  exact joined.trans BitVec.extractLsb'_eq_self

theorem frameOf_write {i : Instr} {reg : Byte} {v : Word} (written : encodeFrame i = some (withCheckByte (writeBytes reg v)))
    (read : writeRow reg v = frameRow i) : FrameOf i 0x02 [reg, v.extractLsb' 8 8, v.extractLsb' 0 8] where
  written := written
  length := rfl
  read := by
    show some (writeRow reg (v.extractLsb' 8 8 ++ v.extractLsb' 0 8)) = _
    rw [append_extractLsb', read]

theorem readRow_of_wellFormed {reg : Byte} (wf : WellFormed (.readReg reg) = true) : readRow reg = .readReg reg := by
  have other : reg ∉ Config.ownReadRows := of_decide_eq_true wf
  simp only [Config.ownReadRows, List.mem_cons, List.not_mem_nil, or_false, not_or] at other
  obtain ⟨hi, lo⟩ := other
  rw [readRow, if_neg hi, if_neg lo]

theorem writeRow_of_wellFormed {reg : Byte} {v : Word} (wf : WellFormed (.writeReg reg v) = true) :
    writeRow reg v = .writeReg reg v := by
  have other : reg ∉ Config.ownWriteRows := of_decide_eq_true wf
  simp only [Config.ownWriteRows, List.mem_cons, List.not_mem_nil, or_false, not_or] at other
  obtain ⟨latency, records, burst, mark, period, mask⟩ := other
  simp only [writeRow, latency, records, burst, mark, period, mask, if_false]

theorem frameOf_unknown {c : Byte} (wf : WellFormed (.unknownCommand c) = true) : FrameOf (.unknownCommand c) c [] := by
  have other : c ∉ Config.commandCodes := of_decide_eq_true wf
  simp only [Config.commandCodes, List.mem_cons, List.not_mem_nil, or_false, not_or] at other
  refine ⟨rfl, ?_, ?_⟩
  · simp only [frameArgs, List.mem_cons, List.not_mem_nil, or_false, other, if_false, List.length_nil]
  · simp only [decodeCommand, other, if_false, frameRow]

theorem badCheckByte_of_wellFormed {frame : List Byte} (wf : WellFormed (.badCheckByte frame) = true) :
    ∃ c rest, frame = c :: rest ∧ rest.length = frameArgs c + 1 ∧ byteSum (c :: rest) ≠ 0 := by
  obtain ⟨length, bad⟩ := Bool.and_eq_true_iff.1 wf
  cases frame with
  | nil => exact Bool.noConfusion length
  | cons c rest => exact ⟨c, rest, rfl, Nat.succ.inj (beq_iff_eq.1 length), bne_iff_ne.1 bad⟩

/-- What a well-formed command writes on the line: nothing, its frame, or bytes that fail their check. -/
theorem frame_cases {i : Instr} (wf : WellFormed i = true) :
    encodeFrame i = none ∨ (∃ c args, FrameOf i c args) ∨ ∃ frame, i = .badCheckByte frame := by
  cases i with
  | tick | horizonAdvance | decisionDeadline | throttleTimeout | statusFrameDue | requestTaken | requestPassed
  | responseTaken | responsePassed | mrstAssert | mrstRelease | rstNAssert | rstNRelease | lineEdge | itemBegin | itemEnd
  | csNRisesAfterRelease | frameAbort => exact .inl rfl
  | badCheckByte frame => exact .inr (.inr ⟨frame, rfl⟩)
  | readReg reg => exact .inr (.inl ⟨0x01, [reg], rfl, rfl, congrArg some (readRow_of_wellFormed wf)⟩)
  | writeReg reg v => exact .inr (.inl ⟨_, _, frameOf_write rfl (writeRow_of_wellFormed wf)⟩)
  | latencyWrite | maxRecordsWrite | throttleMarkWrite | burstSizeWrite | statusPeriodWrite | flagMaskWrite =>
    exact .inr (.inl ⟨_, _, frameOf_write rfl rfl⟩)
  | unknownCommand c => exact .inr (.inl ⟨_, _, frameOf_unknown wf⟩)
  | _ => exact .inr (.inl ⟨_, _, rfl, rfl, rfl⟩)

/-! ### MISO (R151, R156) -/

theorem State.misoByte_before {s : State} {n : Nat} (before : n < s.frame.length) : s.misoByte n = 0 := if_pos before

theorem State.misoByte_after {s : State} {st : Status} {data : List Byte} (answer : s.answer = some ⟨st, data⟩) (i : Nat) :
    s.misoByte (s.frame.length + i) = (statusCode st :: data).getD i 0 := by
  rw [State.misoByte, if_neg (by omega), answer, Nat.add_sub_cancel_left]
  rfl

/-! ### Beats, masks and digests (R10, R11) -/

theorem fold16_xor (x y : Beat) : fold16 (x ^^^ y) = fold16 x ^^^ fold16 y := by
  simp only [fold16, BitVec.extractLsb'_xor]
  ac_rfl

theorem foldl_xor (beats : List Beat) (x : Beat) :
    beats.foldl (· ^^^ ·) x = x ^^^ beats.foldl (· ^^^ ·) 0 := by
  induction beats generalizing x with
  | nil => simp
  | cons b beats ih =>
    have first : (0 : Beat) ^^^ b = b := BitVec.zero_xor
    rw [List.foldl_cons, List.foldl_cons, ih (x ^^^ b), ih (0 ^^^ b), first, BitVec.xor_assoc]

theorem captureDepth_of_toNat {w : Word} {n : BitVec 2} (bits : w.extractLsb' 0 2 = n) : captureDepth w =
    match n.toNat with
    | 0 => .none
    | 1 => .digest
    | 2 => .first
    | _ => .both := by
  subst bits
  rfl

theorem extractLsb'_append_byte {v : Nat} (x : BitVec v) (y : Byte) : (x ++ y).extractLsb' 0 8 = y :=
  (BitVec.extractLsb'_append_eq_of_add_le (by omega)).trans BitVec.extractLsb'_eq_self

theorem extractLsb'_append_above {v : Nat} (x : BitVec v) (y : Byte) (n : Nat) :
    (x ++ y).extractLsb' (n + 8) 8 = x.extractLsb' n 8 := by
  rw [BitVec.extractLsb'_append_eq_of_le (by omega), Nat.add_sub_cancel]

/-- Eight bytes side by side, cut apart again. -/
theorem extractLsb'_eight_bytes (byte : Nat → Byte) {k : Nat} (low : k < 8) :
    (byte 7 ++ byte 6 ++ byte 5 ++ byte 4 ++ byte 3 ++ byte 2 ++ byte 1 ++ byte 0 : Beat).extractLsb' (8 * k) 8 = byte k := by
  have here {v : Nat} (x : BitVec v) (y : Byte) := extractLsb'_append_byte x y
  have above {v : Nat} (x : BitVec v) (y : Byte) (n : Nat) := extractLsb'_append_above x y n
  match k, low with
  | 0, _ => exact here _ _
  | 1, _ => exact (above _ _ 0).trans (here _ _)
  | 2, _ => exact (above _ _ 8).trans ((above _ _ 0).trans (here _ _))
  | 3, _ => exact (above _ _ 16).trans ((above _ _ 8).trans ((above _ _ 0).trans (here _ _)))
  | 4, _ => exact (above _ _ 24).trans ((above _ _ 16).trans ((above _ _ 8).trans ((above _ _ 0).trans (here _ _))))
  | 5, _ =>
    refine (above _ _ 32).trans ((above _ _ 24).trans ?_)
    exact (above _ _ 16).trans ((above _ _ 8).trans ((above _ _ 0).trans (here _ _)))
  | 6, _ =>
    refine (above _ _ 40).trans ((above _ _ 32).trans ((above _ _ 24).trans ?_))
    exact (above _ _ 16).trans ((above _ _ 8).trans ((above _ _ 0).trans (here _ _)))
  | 7, _ =>
    refine (above _ _ 48).trans ((above _ _ 40).trans ((above _ _ 32).trans ((above _ _ 24).trans ?_)))
    exact (above _ _ 16).trans ((above _ _ 8).trans ((above _ _ 0).trans BitVec.extractLsb'_eq_self))

/-- Byte k of the mask is on exactly while its enable is. -/
theorem enableMask_byte (enables : BitVec 8) {k : Nat} (low : k < 8) :
    (enableMask enables).extractLsb' (8 * k) 8 = if enables.getLsbD k then 0xFF else 0 :=
  extractLsb'_eight_bytes (fun k => if enables.getLsbD k then 0xFF else 0) low

/-! ### The statements -/

/-- Settles O48, by the frames of the commands and the bytes that MISO drives. -/
theorem framesAreReadAsWritten : Obligations.FramesAreReadAsWritten := by
  unfold Obligations.FramesAreReadAsWritten
  refine ⟨fun i bytes after wf written => ?_, fun bytes short few => ?_, by decide,
    fun s => ⟨fun n => State.misoByte_before, fun st data answer => ⟨?_, fun i d here => ?_, fun n past => ?_⟩,
      fun silent n => ?_, fun n j low => ?_, ?_⟩⟩
  · obtain none | ⟨c, args, frame⟩ | ⟨frame, rfl⟩ := frame_cases wf
    · exact absurd (none.symm.trans written) (Option.some_ne_none bytes).symm
    · obtain rfl := Option.some.inj (frame.written.symm.trans written)
      refine ⟨(decodeFrame_withCheckByte frame.length after).trans frame.read, ?_, fun _ => byteSum_withCheckByte _⟩
      rw [linkFrame, frame.written]
      rfl
    · obtain rfl := Option.some.inj written
      obtain ⟨c, rest, rfl, length, bad⟩ := badCheckByte_of_wellFormed wf
      exact ⟨decodeFrame_of_badSum length bad after, rfl, fun other => absurd rfl (other _)⟩
  · have back := bytesOfBits_bitsOfBytes bytes short few
    exact ⟨back, congrArg decodeFrame back⟩
  · rw [← Nat.add_zero s.frame.length, State.misoByte_after answer]
    cases st with
    | _ => rfl
  · rw [Nat.add_assoc, State.misoByte_after answer, Nat.add_comm, List.getD_cons_succ, List.getD_eq_getElem?_getD, here]
    rfl
  · obtain ⟨m, rfl⟩ := Nat.exists_eq_add_of_le past
    rw [Nat.add_assoc, Nat.add_assoc, State.misoByte_after answer]
    refine List.getD_eq_default _ _ ?_
    rw [List.length_cons]
    omega
  · rw [State.misoByte, silent]
    exact ite_self _
  · have byte : (8 * n + j) / 8 = n := by omega
    have bit : (8 * n + j) % 8 = j := by omega
    rw [State.misoBit, byte, bit]
  · simp only [State.misoDriven, State.linkOpen, Bool.and_eq_true, Bool.not_eq_true']

/-- Settles O50, by the capture depth's four values and the mask's bytes. -/
theorem dataPartByDepth : Obligations.DataPartByDepth := by
  unfold Obligations.DataPartByDepth
  refine ⟨fun w => ⟨captureDepth_of_toNat, captureDepth_of_toNat, captureDepth_of_toNat, captureDepth_of_toNat⟩,
    fun depth => ⟨rfl, rfl, fun b more => rfl⟩, fun beats => ⟨rfl, rfl, rfl, rfl⟩, fun a b => ?_, fun x => ?_,
    fun b k low => ?_⟩
  · rw [digestOf, List.foldl_append, foldl_xor, fold16_xor]
    rfl
  · have first : (0 : Beat) ^^^ x = x := BitVec.zero_xor
    rw [digestOf, List.foldl_cons, List.foldl_nil, first]
    rfl
  · rw [maskedBeat, BitVec.extractLsb'_and, enableMask_byte _ low]
    split
    · exact BitVec.and_allOnes
    · exact BitVec.and_zero

end Sys2Proof.Machine
end

section
/-! The registers: what a read returns, how a write is decided, and what it replaces (R159 to R161, R186 to R188, 11.1). -/

-- One theorem after another: side by side they ask for more threads than the check's memory limit allows.
set_option Elab.async false

namespace Sys2Proof.Machine

open Sys2Proof

/-! ### Register numbers (11.1) -/

theorem nodup_regTable : regTable.Nodup := by decide

/-- The number of a register. -/
def regNum (r : Reg) : Byte := BitVec.ofNat 8 (regTable.idxOf r)

theorem eq_regNum_of_regOfNum {n : Byte} {r : Reg} (number : regOfNum n = some r) : n = regNum r := by
  obtain ⟨low, here⟩ := List.getElem?_eq_some_iff.1 number
  have place : regTable.idxOf r = n.toNat := by rw [← here, nodup_regTable.idxOf_getElem]
  rw [regNum, place, BitVec.ofNat_toNat, BitVec.setWidth_eq]

theorem exists_reg_of_le {n : Byte} (low : n ≤ 62) : ∃ r, regOfNum n = some r := by
  rw [← Option.ne_none_iff_exists', ne_eq, regOfNum_eq_none]
  exact BitVec.not_lt.2 low

section

variable {s : State} {n : Byte} {r : Reg} {v : Word}

theorem State.regValueAt_of_reg (number : regOfNum n = some r) (s : State) : s.regValueAt n = s.regValue r := by
  rw [State.regValueAt, number]

/-- A read of any register but the two of R161. -/
theorem State.readCommand_of_reg (number : regOfNum n = some r) (hi : n ≠ 43) (lo : n ≠ 44) (s : State) :
    s.readCommand n = s.reply (.readReg n) .ok (bytes2 (s.regValue r)) := by
  unfold State.readCommand
  rw [number]
  cases r with
  | curTickHi => exact absurd (eq_of_regOfNum_eq_curTickHi n number) hi
  | curTickLo => exact absurd (eq_of_regOfNum_eq_curTickLo n number) lo
  | _ => rfl

/-! ### RUN_STATE (R187) -/

/-- The fields of RUN_STATE's word. -/
structure RunStateFields (w : Word) (code : BitVec 2) (forward ott window throttle reset suspended : Bool) : Prop where
  code : w.extractLsb' 0 2 = code
  forward : w.getLsbD 2 = forward
  ott : w.getLsbD 3 = ott
  window : w.getLsbD 4 = window
  throttle : w.getLsbD 5 = throttle
  reset : w.getLsbD 6 = reset
  suspended : w.getLsbD 7 = suspended
  rest : w.extractLsb' 8 8 = 0

theorem runStateFields (code : BitVec 2) (forward ott window throttle reset suspended : Bool) :
    RunStateFields ((0 : BitVec 8) ++ BitVec.ofBool suspended ++ BitVec.ofBool reset ++ BitVec.ofBool throttle
      ++ BitVec.ofBool window ++ BitVec.ofBool ott ++ BitVec.ofBool forward ++ code) code forward ott window throttle reset
      suspended := by
  have fields : ∀ (code : BitVec 2) (f o w t r s : Bool),
      let word : Word := (0 : BitVec 8) ++ BitVec.ofBool s ++ BitVec.ofBool r ++ BitVec.ofBool t ++ BitVec.ofBool w
        ++ BitVec.ofBool o ++ BitVec.ofBool f ++ code
      word.extractLsb' 0 2 = code ∧ word.getLsbD 2 = f ∧ word.getLsbD 3 = o ∧ word.getLsbD 4 = w ∧ word.getLsbD 5 = t ∧
        word.getLsbD 6 = r ∧ word.getLsbD 7 = s ∧ word.extractLsb' 8 8 = 0 := by
    decide
  obtain ⟨h1, h2, h3, h4, h5, h6, h7, h8⟩ := fields code forward ott window throttle reset suspended
  exact ⟨h1, h2, h3, h4, h5, h6, h7, h8⟩

/-! ### The rows of R160 -/

theorem State.writeStatus_of_readOnly (number : regOfNum n = some r) (readOnly : regReadOnly r = true) :
    s.writeStatus n v = .badArg := by
  rw [State.writeStatus, number]
  exact if_pos readOnly

theorem State.writeStatus_of_outside (number : regOfNum n = some r) (outside : regLegal r v = false) :
    s.writeStatus n v = .badArg := by
  rw [State.writeStatus, number]
  dsimp only
  rw [outside]
  exact ite_self _

/-- A write of the register has to wait: for the recorder OFF, or for an empty store (R160, rows 4 and 5). -/
def State.writeWaits (s : State) (r : Reg) : Prop :=
  (regRunLocked r = true ∧ s.recState ≠ .off) ∨ (r = .maxRecords ∧ (s.recState ≠ .off ∨ s.freeSlots ≠ 1024))

theorem State.writeWaits_iff (s : State) (r : Reg) : s.writeWaits r ↔ (regRunLocked r && s.recState != .off) = true ∨
    (r == .maxRecords && (s.recState != .off || s.freeSlots != 1024)) = true := by
  rw [State.writeWaits, Bool.and_eq_true, Bool.and_eq_true, Bool.or_eq_true, beq_iff_eq, bne_iff_ne, bne_iff_ne]

theorem State.writeStatus_of_legal_waits (number : regOfNum n = some r) (writable : regReadOnly r = false)
    (legal : regLegal r v = true) (waits : s.writeWaits r) : s.writeStatus n v = .busy := by
  rw [State.writeStatus, number]
  dsimp only
  rw [writable, legal]
  rw [State.writeWaits_iff] at waits
  by_cases locked : (regRunLocked r && s.recState != .off) = true
  · rw [locked]
    rfl
  · show (if _ then Status.busy else if _ then Status.busy else Status.ok) = _
    rw [if_neg locked]
    exact if_pos (waits.resolve_left locked)

theorem State.writeStatus_of_legal_free (number : regOfNum n = some r) (writable : regReadOnly r = false)
    (legal : regLegal r v = true) (free : ¬ s.writeWaits r) : s.writeStatus n v = .ok := by
  rw [State.writeStatus, number]
  dsimp only
  rw [writable, legal]
  rw [State.writeWaits_iff, not_or] at free
  show (if _ then Status.busy else if _ then Status.busy else Status.ok) = _
  rw [if_neg free.1]
  exact if_neg free.2

theorem State.writeReg_of_ok (number : regOfNum n = some r) (ok : s.writeStatus n v = .ok) :
    s.writeReg n v = ({ s with regs := s.regs.put r v } : State).applyWrite r := by
  rw [State.writeReg, ok, number]

theorem State.writeReg_of_refused (refused : s.writeStatus n v ≠ .ok) : s.writeReg n v = s := by
  unfold State.writeReg
  split
  next ok _ => exact absurd ok refused
  next => rfl

/-- A WRITE_REG that is taken. -/
theorem exec_writeCommand_of_ok {c : Instr} (runs : exec c s = .next (s.writeCommand n v)) (out : s.rst = false)
    (opened : s.csIgnore = false) (number : regOfNum n = some r) (writable : regReadOnly r = false)
    (legal : regLegal r v = true) (free : ¬ s.writeWaits r) : exec c s =
      .next ((({ s with regs := s.regs.put r v } : State).applyWrite r).reply (.writeReg n v) .ok []) := by
  have ok : s.writeStatus n v = .ok := State.writeStatus_of_legal_free number writable legal free
  rw [runs, State.writeCommand, State.onLink_open out opened, State.writeReg_of_ok number ok, ok]

theorem exec_writeReg_of_refused (out : s.rst = false) (opened : s.csIgnore = false) {st : Status}
    (status : s.writeStatus n v = st) (other : st ≠ .ok) :
    exec (.writeReg n v) s = .next (s.reply (.writeReg n v) st []) := by
  have runs : exec (.writeReg n v) s = .next (s.writeCommand n v) := rfl
  rw [runs, State.writeCommand, State.onLink_open out opened, State.writeReg_of_refused (status ▸ other), status]

/-- What a taken write does besides its setting (R3, R140, R143). -/
theorem State.applyWrite_spelled (s : State) (r : Reg) : s.applyWrite r = { s with
    horizon := if r = .latency then horizonOf s.tick s.regs.latency else s.horizon,
    framer := if r = .burstSize ∨ r = .statusPeriod then s.rechoose.framer else s.framer } := by
  cases r with
  | burstSize | statusPeriod => exact State.rechoose_eq s
  | _ => rfl

/-- A write leaves every other register but RUN_STATE, which shows hold reasons that read settings. -/
theorem State.regValue_put_of_other (s : State) {r r' : Reg} (v : Word) (other : r' ≠ r) (run : r' ≠ .runState) :
    ({ s with regs := s.regs.put r v } : State).regValue r' = s.regValue r' := by
  cases writable : regReadOnly r' with
  | false => exact s.regValue_put_of_ne v other writable
  | true =>
    cases r' with
    | runState => exact absurd rfl run
    | partCode | curTickHi | curTickLo | windowCount | openCount | storeFree | queueCount | tableCount | counter | flags => rfl
    | _ => exact Bool.noConfusion writable

/-! ### The rows of R160 by register number -/

theorem regReadOnly_iff (number : regOfNum n = some r) : regReadOnly r = true ↔ n ≤ 1 ∨ (43 ≤ n ∧ n ≤ 62) := by
  have all : ∀ n : Byte, (regOfNum n).all (fun r => regReadOnly r == decide (n ≤ 1 ∨ (43 ≤ n ∧ n ≤ 62))) = true := by decide
  have here := all n
  rw [number, Option.all_some, beq_iff_eq] at here
  rw [here, decide_eq_true_iff]

theorem regRunLocked_iff (number : regOfNum n = some r) : regRunLocked r = true ↔ n = 2 ∨ n = 3 ∨ n = 4 := by
  have all : ∀ n : Byte, (regOfNum n).all (fun r => regRunLocked r == decide (n = 2 ∨ n = 3 ∨ n = 4)) = true := by decide
  have here := all n
  rw [number, Option.all_some, beq_iff_eq] at here
  rw [here, decide_eq_true_iff]

theorem eq_maxRecords_iff (number : regOfNum n = some r) : r = .maxRecords ↔ n = 5 := by
  refine ⟨fun same => ?_, fun five => ?_⟩
  · rw [eq_regNum_of_regOfNum number, same]
    rfl
  subst five
  exact (Option.some.inj number).symm

theorem State.writeWaits_iff_num (number : regOfNum n = some r) (s : State) : s.writeWaits r ↔
    ((n = 2 ∨ n = 3 ∨ n = 4) ∧ s.recState ≠ .off) ∨ (n = 5 ∧ (s.recState ≠ .off ∨ s.freeSlots ≠ 1024)) := by
  rw [State.writeWaits, regRunLocked_iff number, eq_maxRecords_iff number]

/-! ### The ranges (11.2) -/

/-- A word with no bit from k up is below 2^k. -/
theorem and_high_eq_zero_iff (v : Word) (k : Nat) : v &&& (BitVec.allOnes 16 <<< k) = 0 ↔ v.toNat < 2 ^ k := by
  have cut : (v >>> k <<< k).toNat = v.toNat / 2 ^ k * 2 ^ k := by
    rw [BitVec.toNat_shiftLeft, BitVec.toNat_ushiftRight, Nat.shiftRight_eq_div_pow, Nat.shiftLeft_eq]
    exact Nat.mod_eq_of_lt ((Nat.div_mul_le_self _ _).trans_lt v.isLt)
  rw [← BitVec.shiftLeft_ushiftRight, ← BitVec.toNat_inj, cut]
  show v.toNat / 2 ^ k * 2 ^ k = 0 ↔ _
  rw [Nat.mul_eq_zero, Nat.div_eq_zero_iff]
  have positive : 2 ^ k ≠ 0 := by positivity
  omega

/-- A value outside a register's range, by register number (R160, row 3). -/
def writeOutside (n : Byte) (v : Word) : Prop :=
  let unitReg (k : Byte) := n = 12 + k ∨ n = 18 + k ∨ n = 24 + k ∨ n = 30 + k
  let span := v.extractLsb' 0 4
  (n = 2 ∧ (v < 8 ∨ 1023 < v)) ∨ (n = 3 ∧ v = 0) ∨ (n = 4 ∧ 8 ≤ v) ∨ (n = 5 ∧ (v = 0 ∨ 255 < v)) ∨
  (n = 6 ∧ (v = 0 ∨ 4095 < v)) ∨
  ((n = 7 ∨ n = 8 ∨ n = 9) ∧ (span = 0 ∨ 8 < span ∨ v &&& 0xFFC0 ≠ 0)) ∨
  (n = 10 ∧ (span = 0 ∨ 8 < span ∨ v &&& 0xF8C0 ≠ 0 ∨
    (span.toNat - 1 < (v.extractLsb' 8 3).toNat))) ∨
  (unitReg 4 ∧ (v.extractLsb' 0 2 = 0 ∨ v &&& 0xFFF8 ≠ 0)) ∨
  (n = 36 ∧ (v = 0 ∨ 16 < v)) ∨ (n = 37 ∧ 1023 < v) ∨ (n = 38 ∧ v = 0) ∨ (n = 39 ∧ 7 < v) ∨
  (n = 41 ∧ (62 < v.extractLsb' 8 8 ∨ 62 < v.extractLsb' 0 8)) ∨ (n = 42 ∧ v &&& 0xFE00 ≠ 0)

theorem cfgLegal_eq_false_iff (v : Word) : cfgLegal v = false ↔
    v.extractLsb' 0 4 = 0 ∨ 8 < v.extractLsb' 0 4 ∨ v &&& 0xFFC0 ≠ 0 := by
  have bits : v &&& 0xFFC0 = 0 ↔ v.toNat < 64 := and_high_eq_zero_iff v 6
  have none : v.extractLsb' 0 4 = 0 ↔ cfgSpan v = 0 := BitVec.toNat_inj.symm
  have many : 8 < v.extractLsb' 0 4 ↔ 8 < cfgSpan v := Iff.rfl
  have small : v < 64 ↔ v.toNat < 64 := Iff.rfl
  rw [← Bool.not_eq_true, cfgLegal, Bool.and_eq_true, Bool.and_eq_true, decide_eq_true_eq, decide_eq_true_eq,
    decide_eq_true_eq, ne_eq, bits, none, many, small]
  omega

theorem outside_range_iff (v low high : Word) :
    (decide (low ≤ v) && decide (v ≤ high)) = false ↔ v < low ∨ high < v := by
  rw [← Bool.not_eq_true, Bool.and_eq_true, decide_eq_true_eq, decide_eq_true_eq, not_and_or, BitVec.not_le, BitVec.not_le]

theorem outside_from_one_iff (v high : Word) :
    (decide (1 ≤ v) && decide (v ≤ high)) = false ↔ v = 0 ∨ high < v := by
  have zero : v < 1 ↔ v = 0 := by
    rw [← BitVec.toNat_inj]
    exact Nat.lt_one_iff
  rw [outside_range_iff, zero]

theorem decide_lt_eq_false_iff (v high : Word) : decide (v < high) = false ↔ high ≤ v := by
  rw [decide_eq_false_iff_not, BitVec.not_lt]

theorem decide_le_eq_false_iff (v high : Word) : decide (v ≤ high) = false ↔ high < v := by
  rw [decide_eq_false_iff_not, BitVec.not_le]

theorem bne_zero_eq_false_iff (v : Word) : (v != 0) = false ↔ v = 0 := by
  rw [← Bool.not_eq_true, bne_iff_ne, not_not]

theorem matchCfg_outside_iff (v : Word) : regLegal .matchCfg v = false ↔ v.extractLsb' 0 4 = 0 ∨ 8 < v.extractLsb' 0 4 ∨
    v &&& 0xF8C0 ≠ 0 ∨ (v.extractLsb' 0 4).toNat - 1 < (v.extractLsb' 8 3).toNat := by
  have none : v.extractLsb' 0 4 = 0 ↔ cfgSpan v = 0 := BitVec.toNat_inj.symm
  have many : 8 < v.extractLsb' 0 4 ↔ 8 < cfgSpan v := Iff.rfl
  have legal : regLegal .matchCfg v = (v &&& 0xF8C0 == 0 && decide (1 ≤ cfgSpan v) && decide (cfgSpan v ≤ 8) &&
    decide (cfgPre v + 1 ≤ cfgSpan v)) := rfl
  rw [legal, ← Bool.not_eq_true, Bool.and_eq_true, Bool.and_eq_true, Bool.and_eq_true, beq_iff_eq, decide_eq_true_eq,
    decide_eq_true_eq, decide_eq_true_eq, none, many]
  show _ ↔ cfgSpan v = 0 ∨ 8 < cfgSpan v ∨ _ ∨ cfgSpan v - 1 < cfgPre v
  by_cases bits : v &&& 0xF8C0 = 0
  · simp only [bits, true_and, ne_eq, not_true, false_or]
    omega
  · simp only [bits, false_and, ne_eq, not_false_eq_true, true_or, or_true]

theorem unitSel_outside_iff (k : Fin 4) (v : Word) : regLegal (.unit k .sel) v = false ↔
    v.extractLsb' 0 2 = 0 ∨ v &&& 0xFFF8 ≠ 0 := by
  have bits : v &&& 0xFFF8 = 0 ↔ v.toNat < 8 := and_high_eq_zero_iff v 3
  have small : v < 8 ↔ v.toNat < 8 := Iff.rfl
  have legal : regLegal (.unit k .sel) v = (decide (v < 8) && v.extractLsb' 0 2 != 0) := rfl
  rw [legal, ← Bool.not_eq_true, Bool.and_eq_true, bne_iff_ne, decide_eq_true_eq, ne_eq, ne_eq, bits, small, not_and_or,
    not_not, or_comm]

theorem statusSel_outside_iff (v : Word) : regLegal .statusSel v = false ↔
    62 < v.extractLsb' 8 8 ∨ 62 < v.extractLsb' 0 8 := by
  have legal : regLegal .statusSel v = (decide (selFirst v ≤ 62) && decide (selSecond v ≤ 62)) := rfl
  rw [legal, ← Bool.not_eq_true, Bool.and_eq_true, decide_eq_true_eq, decide_eq_true_eq, not_and_or, BitVec.not_le,
    BitVec.not_le]
  rfl

theorem flagMask_outside_iff (v : Word) : regLegal .flagMask v = false ↔ v &&& 0xFE00 ≠ 0 := by
  have bits : v &&& 0xFE00 = 0 ↔ v.toNat < 512 := and_high_eq_zero_iff v 9
  have small : 512 ≤ v ↔ 512 ≤ v.toNat := Iff.rfl
  rw [ne_eq, bits, Nat.not_lt, ← small]
  exact decide_lt_eq_false_iff v 512

theorem noticeEn_outside_iff (v : Word) : regLegal .noticeEn v = false ↔ 7 < v := by
  have next : (8 : Word) ≤ v ↔ 7 < v := Iff.rfl
  rw [← next]
  exact decide_lt_eq_false_iff v 8

/-- The registers of match unit k stand from 12 + 6k up (11.1). -/
theorem regNum_unit (k : Fin 4) (f : UnitField) : regNum (.unit k f) = BitVec.ofNat 8 (12 + 6 * k.val + match f with
    | .loH => 0
    | .loL => 1
    | .hiH => 2
    | .hiL => 3
    | .sel => 4
    | .idset => 5) := by
  cases f with
  | _ =>
    revert k
    decide

/-- A write is refused for its value exactly where the data book has it, register by register (R160, row 3). -/
theorem regLegal_eq_false_iff (number : regOfNum n = some r) (writable : regReadOnly r = false) :
    regLegal r v = false ↔ writeOutside n v := by
  obtain rfl := eq_regNum_of_regOfNum number
  cases r with
  | partCode | runState | curTickHi | curTickLo | windowCount | openCount | storeFree | queueCount | tableCount | counter
  | flags => exact Bool.noConfusion writable
  | latency =>
    have here : writeOutside 2 v ↔ v < 8 ∨ 1023 < v := by simp [writeOutside]
    exact (outside_range_iff v 8 1023).trans here.symm
  | tickDiv =>
    have here : writeOutside 3 v ↔ v = 0 := by simp [writeOutside]
    exact (bne_zero_eq_false_iff v).trans here.symm
  | capture =>
    have here : writeOutside 4 v ↔ 8 ≤ v := by simp [writeOutside]
    exact (decide_lt_eq_false_iff v 8).trans here.symm
  | maxRecords =>
    have here : writeOutside 5 v ↔ v = 0 ∨ 255 < v := by simp [writeOutside]
    exact (outside_from_one_iff v 255).trans here.symm
  | decision =>
    have here : writeOutside 6 v ↔ v = 0 ∨ 4095 < v := by simp [writeOutside]
    exact (outside_from_one_iff v 4095).trans here.symm
  | lineACfg =>
    have here : writeOutside 7 v ↔ v.extractLsb' 0 4 = 0 ∨ 8 < v.extractLsb' 0 4 ∨ v &&& 0xFFC0 ≠ 0 := by simp [writeOutside]
    exact (cfgLegal_eq_false_iff v).trans here.symm
  | lineBCfg =>
    have here : writeOutside 8 v ↔ v.extractLsb' 0 4 = 0 ∨ 8 < v.extractLsb' 0 4 ∨ v &&& 0xFFC0 ≠ 0 := by simp [writeOutside]
    exact (cfgLegal_eq_false_iff v).trans here.symm
  | faultCfg =>
    have here : writeOutside 9 v ↔ v.extractLsb' 0 4 = 0 ∨ 8 < v.extractLsb' 0 4 ∨ v &&& 0xFFC0 ≠ 0 := by simp [writeOutside]
    exact (cfgLegal_eq_false_iff v).trans here.symm
  | matchCfg =>
    have here : writeOutside 10 v ↔ v.extractLsb' 0 4 = 0 ∨ 8 < v.extractLsb' 0 4 ∨ v &&& 0xF8C0 ≠ 0 ∨
        (v.extractLsb' 0 4).toNat - 1 < (v.extractLsb' 8 3).toNat := by simp [writeOutside]
    exact (matchCfg_outside_iff v).trans here.symm
  | matchTable =>
    have here : ¬ writeOutside 11 v := by simp [writeOutside]
    exact iff_of_false Bool.noConfusion here
  | statusPeriod =>
    have here : ¬ writeOutside 40 v := by simp [writeOutside]
    exact iff_of_false Bool.noConfusion here
  | burstSize =>
    have here : writeOutside 36 v ↔ v = 0 ∨ 16 < v := by simp [writeOutside]
    exact (outside_from_one_iff v 16).trans here.symm
  | throttleMark =>
    have here : writeOutside 37 v ↔ 1023 < v := by simp [writeOutside]
    exact (decide_le_eq_false_iff v 1023).trans here.symm
  | throttleLimit =>
    have here : writeOutside 38 v ↔ v = 0 := by simp [writeOutside]
    exact (bne_zero_eq_false_iff v).trans here.symm
  | noticeEn =>
    have here : writeOutside 39 v ↔ 7 < v := by simp [writeOutside]
    exact (noticeEn_outside_iff v).trans here.symm
  | statusSel =>
    have here : writeOutside 41 v ↔ 62 < v.extractLsb' 8 8 ∨ 62 < v.extractLsb' 0 8 := by simp [writeOutside]
    exact (statusSel_outside_iff v).trans here.symm
  | flagMask =>
    have here : writeOutside 42 v ↔ v &&& 0xFE00 ≠ 0 := by simp [writeOutside]
    exact (flagMask_outside_iff v).trans here.symm
  | unit k f =>
    cases f with
    | sel =>
      have here : writeOutside (regNum (.unit k .sel)) v ↔ v.extractLsb' 0 2 = 0 ∨ v &&& 0xFFF8 ≠ 0 := by
        rw [regNum_unit]
        fin_cases k
        all_goals simp [writeOutside]
      exact (unitSel_outside_iff k v).trans here.symm
    | loH | loL | hiH | hiL | idset =>
      refine iff_of_false Bool.noConfusion ?_
      rw [regNum_unit]
      fin_cases k
      all_goals simp [writeOutside]

end

/-! ### The statements -/

/-- Settles O36: a read by its register, the words of the table by name, and RUN_STATE by its fields. -/
theorem readRegReturnsTheRegister : Obligations.ReadRegReturnsTheRegister := by
  unfold Obligations.ReadRegReturnsTheRegister
  refine ⟨fun s out opened => ⟨exec_link_open (c := .nop) rfl out opened, fun n high => ?_, fun n low hi lo => ?_⟩,
    fun s => ?_, fun w n => ⟨?_, rfl⟩⟩
  · rw [exec_link_open (c := .readReg n) rfl out opened, State.readCommand, (regOfNum_eq_none n).2 high]
    rfl
  · obtain ⟨r, number⟩ := exists_reg_of_le low
    rw [exec_link_open (c := .readReg n) rfl out opened, State.readCommand_of_reg number hi lo,
      State.regValueAt_of_reg number]
    rfl
  · intro unit
    have fields := runStateFields s.recState.code s.forwardFull s.ottFull s.windowFull s.throttleHold s.resetHold s.suspended
    have live : s.liveCount = allSlots.countP (fun k => (s.slot k).isSome) := List.countP_eq_length_filter.symm
    refine ⟨?_, fields.code.trans ?_, ?_, ?_, ?_, ⟨fields.throttle, State.throttleHold_iff⟩,
      ?_, fields.suspended, fields.rest, rfl⟩
    · rw [← live]
      rfl
    · cases s.recState with
      | _ => rfl
    · exact fields.forward ▸ decide_eq_true_iff
    · exact fields.ott ▸ decide_eq_true_iff
    · exact fields.window ▸ State.windowFull_iff
    · exact fields.reset ▸ State.resetHold_iff
  · unfold satInc
    split
    next full => exact full
    next => rfl

/-- Settles O38: the rows in order by the register of the number, and what a taken write replaces. -/
theorem writeRegIsDecidedInOrder : Obligations.WriteRegIsDecidedInOrder := by
  unfold Obligations.WriteRegIsDecidedInOrder
  intro s n v out opened refused readOnly unitReg span outside locked stored
  have refuse {st : Status} (status : s.writeStatus n v = st) (other : st ≠ .ok) : refused st :=
    exec_writeReg_of_refused out opened status other
  refine ⟨fun high => ?_, fun readOnly => ?_, fun low writable outside => ?_, fun low writable inside waits => ?_,
    fun low writable inside unlocked unstored => ?_⟩
  · refine refuse ?_ Status.noConfusion
    rw [State.writeStatus, (regOfNum_eq_none n).2 high]
  · have low : n ≤ 62 := readOnly.elim (fun first => BitVec.le_trans first (by decide)) And.right
    obtain ⟨r, number⟩ := exists_reg_of_le low
    exact refuse (State.writeStatus_of_readOnly number ((regReadOnly_iff number).2 readOnly)) Status.noConfusion
  all_goals
    obtain ⟨r, number⟩ := exists_reg_of_le low
    have writes : regReadOnly r = false := Bool.eq_false_iff.2 (mt (regReadOnly_iff number).1 writable)
  · have outside := (regLegal_eq_false_iff number writes).2 outside
    exact refuse (State.writeStatus_of_outside number outside) Status.noConfusion
  all_goals
    have legal : regLegal r v = true := Bool.not_eq_false _ ▸ mt (regLegal_eq_false_iff number writes).1 inside
  · exact refuse (State.writeStatus_of_legal_waits number writes legal ((s.writeWaits_iff_num number).2 waits))
      Status.noConfusion
  · have free : ¬ s.writeWaits r := mt (s.writeWaits_iff_num number).1 (not_or.2 ⟨unlocked, unstored⟩)
    have ran := exec_writeCommand_of_ok (c := .writeReg n v) rfl out opened number writes legal free
    rw [State.applyWrite_spelled] at ran
    refine ⟨s.regs.put r v, _, _, ran, fun other => if_neg ?_, fun burst period => if_neg ?_, ?_, fun m inside run other => ?_⟩
    · rintro rfl
      exact other (eq_regNum_of_regOfNum number)
    · rintro (rfl | rfl)
      · exact burst (eq_regNum_of_regOfNum number)
      · exact period (eq_regNum_of_regOfNum number)
    · rw [State.regValueAt_of_reg number, State.regValue_put_self s r v writes]
    · obtain ⟨r', number'⟩ := exists_reg_of_le inside
      rw [State.regValueAt_of_reg number', State.regValueAt_of_reg number']
      refine s.regValue_put_of_other v (fun same => ?_) (fun same => ?_)
      · exact other ((eq_regNum_of_regOfNum number').trans (same ▸ (eq_regNum_of_regOfNum number).symm))
      · exact run ((eq_regNum_of_regOfNum number').trans (same ▸ rfl))

/-- Settles O39, by the register of each row. -/
theorem ownRowWritesApplyAtOnce : Obligations.OwnRowWritesApplyAtOnce := by
  unfold Obligations.OwnRowWritesApplyAtOnce
  refine ⟨fun s v out opened => ⟨fun low high off => ?_, fun low high off empty => ?_, fun high => ?_, fun low high => ?_, ?_,
    fun high => ?_⟩, fun s v => ⟨rfl, rfl, rfl, rfl, rfl, rfl⟩⟩
  · have legal : regLegal .latency v = true := Bool.and_eq_true_iff.2 ⟨decide_eq_true low, decide_eq_true high⟩
    have free : ¬ s.writeWaits .latency := by simp [State.writeWaits, off]
    exact exec_writeCommand_of_ok (c := .latencyWrite v) rfl out opened rfl rfl legal free
  · have legal : regLegal .maxRecords v = true := Bool.and_eq_true_iff.2 ⟨decide_eq_true low, decide_eq_true high⟩
    have free : ¬ s.writeWaits .maxRecords := by simp [State.writeWaits, off, empty]
    exact exec_writeCommand_of_ok (c := .maxRecordsWrite v) rfl out opened rfl rfl legal free
  · have free : ¬ s.writeWaits .throttleMark := by simp [State.writeWaits, regRunLocked]
    exact exec_writeCommand_of_ok (c := .throttleMarkWrite v) rfl out opened rfl rfl (decide_eq_true high) free
  · have legal : regLegal .burstSize v = true := Bool.and_eq_true_iff.2 ⟨decide_eq_true low, decide_eq_true high⟩
    have free : ¬ s.writeWaits .burstSize := by simp [State.writeWaits, regRunLocked]
    exact exec_writeCommand_of_ok (c := .burstSizeWrite v) rfl out opened rfl rfl legal free
  · have free : ¬ s.writeWaits .statusPeriod := by simp [State.writeWaits, regRunLocked]
    exact exec_writeCommand_of_ok (c := .statusPeriodWrite v) rfl out opened rfl rfl rfl free
  · have free : ¬ s.writeWaits .flagMask := by simp [State.writeWaits, regRunLocked]
    exact exec_writeCommand_of_ok (c := .flagMaskWrite v) rfl out opened rfl rfl (decide_eq_true high) free

end Sys2Proof.Machine
end

section
/-! The end of collection: what one slot's turn at the horizon report does, and what the turns of all slots leave in order
(R18, R39 to R42, R51, R78, R129). -/

-- One theorem after another: side by side they ask for more threads than the check's memory limit allows.
set_option Elab.async false

namespace Sys2Proof.Machine

open Sys2Proof

section

variable {s t u : State} {h : Tick} {k : Slot} {l : Live}

/-! ### One entry's collection ends (R39 to R42, R51) -/

/-- The entry as it is held for its decision (R51). -/
def State.heldNow (s : State) (l : Live) : Live :=
  { l with closeTick := some s.tick, state := .held (s.tick + s.regs.decision.setWidth 24) }

/-- The entry as it parks (R42). -/
def State.parkedNow (s : State) (l : Live) : Live := { l with closeTick := some s.tick, state := .parked }

/-- The slot's event has entered the queue, before the framer chooses again. -/
def State.entered (s : State) (k : Slot) (l : Live) : State :=
  ({ s with queue := s.queue ++ [l.completed] } : State).setSlot k none

/-- The entry stands at the tail of the parking list. -/
def State.atTail (s : State) (k : Slot) (l : Live) : State :=
  ({ s with parking := s.parking ++ [k] } : State).setSlot k (some (s.parkedNow l))

theorem Live.complete_iff : l.complete = true ↔ l.provisional = false ∨ l.confirmed = true := by
  rw [Live.complete, Bool.or_eq_true, Bool.not_eq_true']

theorem Live.complete_eq_false_iff : l.complete = false ↔ l.provisional = true ∧ l.confirmed = false := by
  rw [Live.complete, Bool.or_eq_false_iff, Bool.not_eq_false']

theorem State.endCollection_of_live (live : s.slot k = some l) : s.endCollection k =
    if l.complete then (s.setSlot k (some { l with closeTick := some s.tick })).handOn k
    else s.setSlot k (some (s.heldNow l)) := by
  rw [State.endCollection, live]
  dsimp only
  cases complete : l.complete with
  | false =>
    obtain ⟨provisional, unconfirmed⟩ := Live.complete_eq_false_iff.1 complete
    refine (if_pos ?_).trans (if_neg Bool.false_ne_true).symm
    rw [provisional, unconfirmed]
    rfl
  | true =>
    refine if_neg ?_
    rw [Bool.and_eq_true, Bool.not_eq_true']
    rintro ⟨provisional, unconfirmed⟩
    exact Bool.noConfusion (complete.symm.trans (Live.complete_eq_false_iff.2 ⟨provisional, unconfirmed⟩))

theorem State.endCollection_of_held (live : s.slot k = some l) (incomplete : l.complete = false) :
    s.endCollection k = s.setSlot k (some (s.heldNow l)) := by
  rw [State.endCollection_of_live live, incomplete]
  exact if_neg Bool.false_ne_true

theorem State.endCollection_of_room (live : s.slot k = some l) (complete : l.complete = true)
    (room : s.queue.length < 32) : s.endCollection k = (s.entered k l).rechoose := by
  rw [State.endCollection_of_live live, if_pos complete, State.handOn_setSlot_of_room room]
  rfl

theorem State.endCollection_of_full (live : s.slot k = some l) (complete : l.complete = true)
    (full : 32 ≤ s.queue.length) : s.endCollection k = s.atTail k l := by
  rw [State.endCollection_of_live live, if_pos complete, State.handOn_setSlot_of_full full]
  rfl

/-! ### A slot's turn at the report -/

theorem State.reportSlot_of_reached (live : s.slot k = some l) (reached : l.reachedBy h = true) :
    State.reportSlot h s k = s.endCollection k := by
  rw [State.reportSlot, live]
  refine if_pos ?_
  rwa [Live.reachedBy, Bool.and_eq_true, beq_iff_eq] at reached

theorem State.reportSlot_of_stays (stays : ∀ l, s.slot k = some l → l.reachedBy h = false) :
    State.reportSlot h s k = s := by
  unfold State.reportSlot
  split
  next => rfl
  next l live =>
    refine if_neg ?_
    rw [← beq_iff_eq, ← Bool.and_eq_true]
    exact Bool.eq_false_iff.1 (stays l live)

theorem State.slot_reportSlot_ne (s : State) {j : Slot} (other : j ≠ k) : (State.reportSlot h s k).slot j = s.slot j := by
  unfold State.reportSlot
  split
  next => rfl
  next => exact kept_ite (fun t => t.slot j = s.slot j) (fun _ => s.slot_endCollection_ne other) (fun _ => rfl)

/-! ### The turns of some slots -/

/-- The slots of a list whose events a report completes, in their order. -/
def State.completedIn (s : State) (h : Tick) (ks : List Slot) : List Slot :=
  ks.filter (fun k => (s.slot k).any (fun l => l.reachedBy h && l.complete))

/-- Those whose events find a place. -/
def State.entering (s : State) (h : Tick) (ks : List Slot) : List Slot :=
  (s.completedIn h ks).take (32 - s.queue.length)

/-- Those that park. -/
def State.waiting (s : State) (h : Tick) (ks : List Slot) : List Slot :=
  (s.completedIn h ks).drop (32 - s.queue.length)

/-- An entry after its turn, where its event is not complete. -/
def State.turned (s : State) (h : Tick) (l : Live) : Live := if l.reachedBy h && !l.complete then s.heldNow l else l

/-- A slot after the turns of some slots. -/
def State.slotAfter (s : State) (h : Tick) (ks : List Slot) (j : Slot) : Option Live :=
  if j ∈ s.entering h ks then none
  else if j ∈ s.waiting h ks then (s.slot j).map s.parkedNow
  else if j ∈ ks then (s.slot j).map (s.turned h) else s.slot j

/-- What the turns of some slots leave: the completed events take the places left in the queue and the rest park, the other
reached entries are held, and the framer chooses again where an event entered. -/
structure Reported (h : Tick) (ks : List Slot) (s t : State) : Prop where
  queue : t.queue = s.queue ++ (s.entering h ks).filterMap (fun k => (s.slot k).map Live.completed)
  parking : t.parking = s.parking ++ s.waiting h ks
  slot : ∀ j, t.slot j = s.slotAfter h ks j
  framer : t.framer = if s.entering h ks = [] then s.framer else (State.rechoose { s with queue := t.queue }).framer

theorem reported_nil (h : Tick) (s : State) : Reported h [] s s where
  queue := by simp [State.entering, State.completedIn]
  parking := by simp [State.waiting, State.completedIn]
  slot j := by simp [State.slotAfter, State.entering, State.waiting, State.completedIn]
  framer := by simp [State.entering, State.completedIn]

theorem State.entering_subset (s : State) (h : Tick) (ks : List Slot) : s.entering h ks ⊆ ks :=
  fun _ mem => (List.mem_filter.1 (List.mem_of_mem_take mem)).1

theorem State.waiting_subset (s : State) (h : Tick) (ks : List Slot) : s.waiting h ks ⊆ ks :=
  fun _ mem => (List.mem_filter.1 (List.mem_of_mem_drop mem)).1

theorem State.slotAfter_of_not_mem {ks : List Slot} {j : Slot} (other : j ∉ ks) : s.slotAfter h ks j = s.slot j := by
  rw [State.slotAfter, if_neg (fun mem => other (s.entering_subset h ks mem)),
    if_neg (fun mem => other (s.waiting_subset h ks mem)), if_neg other]

/-- The choice reads nothing of the table. -/
theorem State.rechoose_framer_congr (framer : t.framer = s.framer) (choose : t.choose = s.choose) :
    t.rechoose.framer = s.rechoose.framer := by
  unfold State.rechoose
  rw [framer]
  split
  · exact framer
  · rw [State.offer, State.offer, choose]
  · rw [State.offer, State.offer, choose]

/-- What one slot's turn changes, by the lists of those that enter and that park in it. -/
structure Turn (h : Tick) (k : Slot) (s u : State) (enters parks : List Slot) : Prop where
  tick : u.tick = s.tick
  regs : u.regs = s.regs
  others : ∀ j, j ≠ k → u.slot j = s.slot j
  own : u.slot k = if k ∈ enters then none else if k ∈ parks then (s.slot k).map s.parkedNow else (s.slot k).map (s.turned h)
  queue : u.queue = s.queue ++ enters.filterMap (fun k => (s.slot k).map Live.completed)
  parking : u.parking = s.parking ++ parks
  quiet : enters = [] → u.framer = s.framer
  chooses : enters ≠ [] → u.framer = (State.rechoose { s with queue := u.queue }).framer
  again : ∀ q, (State.rechoose { u with queue := q }).framer = (State.rechoose { s with queue := q }).framer

theorem Turn.entry {enters parks : List Slot} (turn : Turn h k s u enters parks) :
    u.parkedNow = s.parkedNow ∧ u.turned h = s.turned h := by
  have held : u.heldNow = s.heldNow := funext (fun l => by rw [State.heldNow, turn.tick, turn.regs, State.heldNow])
  exact ⟨funext (fun l => by rw [State.parkedNow, turn.tick, State.parkedNow]),
    funext (fun l => by rw [State.turned, held, State.turned])⟩

/-- A turn and then the turns of the slots behind it. -/
theorem Turn.reported {enters parks ks : List Slot} (turn : Turn h k s u enters parks) (new : k ∉ ks)
    (own : ∀ j, j ∈ enters ++ parks → j = k)
    (entering : s.entering h (k :: ks) = enters ++ u.entering h ks)
    (waiting : s.waiting h (k :: ks) = parks ++ u.waiting h ks) (rest : Reported h ks u t) : Reported h (k :: ks) s t where
  queue := by
    have same : (u.entering h ks).filterMap (fun j => (u.slot j).map Live.completed) =
        (u.entering h ks).filterMap (fun j => (s.slot j).map Live.completed) := by
      refine List.filterMap_congr (fun j mem => ?_)
      have other : j ≠ k := fun here => new (here ▸ u.entering_subset h ks mem)
      rw [turn.others j other]
    rw [rest.queue, same, turn.queue, entering, List.filterMap_append, List.append_assoc]
  parking := by rw [rest.parking, turn.parking, waiting, List.append_assoc]
  slot j := by
    obtain ⟨parked, turned⟩ := turn.entry
    rw [rest.slot]
    by_cases here : j = k
    · subst here
      have out : j ∉ u.entering h ks := fun mem => new (u.entering_subset h ks mem)
      have past : j ∉ u.waiting h ks := fun mem => new (u.waiting_subset h ks mem)
      rw [State.slotAfter_of_not_mem new, turn.own, State.slotAfter, entering, waiting]
      simp only [List.mem_append, out, past, or_false, List.mem_cons, true_or, if_true]
    · have out : j ∉ enters := fun mem => here (own j (List.mem_append_left _ mem))
      have past : j ∉ parks := fun mem => here (own j (List.mem_append_right _ mem))
      rw [State.slotAfter, State.slotAfter, entering, waiting, turn.others j here, parked, turned]
      simp only [List.mem_append, out, past, false_or, List.mem_cons, here]
  framer := by
    rw [rest.framer, entering]
    by_cases later : u.entering h ks = []
    · have queue : t.queue = u.queue := by rw [rest.queue, later, List.filterMap_nil, List.append_nil]
      rw [if_pos later, later, List.append_nil, queue]
      by_cases none : enters = []
      · rw [if_pos none, turn.quiet none]
      · rw [if_neg none, turn.chooses none]
    · rw [if_neg later, if_neg (fun none => later (List.append_eq_nil_iff.1 none).2), turn.again]

theorem State.completedIn_congr {ks : List Slot} (same : ∀ j ∈ ks, t.slot j = s.slot j) :
    t.completedIn h ks = s.completedIn h ks :=
  List.filter_congr (fun j mem => by rw [same j mem])

theorem Turn.completedIn {enters parks ks : List Slot} (turn : Turn h k s u enters parks) (new : k ∉ ks) :
    u.completedIn h ks = s.completedIn h ks :=
  State.completedIn_congr (fun j mem => turn.others j (fun here => new (here ▸ mem)))

/-! ### The four turns -/

theorem turn_of_stays (stays : ∀ l, s.slot k = some l → l.reachedBy h = false) : Turn h k s s [] [] where
  tick := rfl
  regs := rfl
  others _ _ := rfl
  own := by
    cases live : s.slot k with
    | none => rfl
    | some l => simp [State.turned, stays l live]
  queue := (List.append_nil _).symm
  parking := (List.append_nil _).symm
  quiet _ := rfl
  chooses some := absurd rfl some
  again _ := rfl

theorem turn_of_held (live : s.slot k = some l) (reached : l.reachedBy h = true) (incomplete : l.complete = false) :
    Turn h k s (s.setSlot k (some (s.heldNow l))) [] [] where
  tick := rfl
  regs := rfl
  others _ other := s.slot_setSlot_ne _ other
  own := by
    rw [State.slot_setSlot_self, live]
    simp [State.turned, reached, incomplete]
  queue := (List.append_nil _).symm
  parking := (List.append_nil _).symm
  quiet _ := rfl
  chooses some := absurd rfl some
  again q := State.rechoose_framer_congr rfl (State.choose_congr rfl rfl rfl rfl rfl rfl rfl rfl)

theorem turn_of_full (live : s.slot k = some l) : Turn h k s (s.atTail k l) [] [k] where
  tick := rfl
  regs := rfl
  others _ other := State.slot_setSlot_ne _ _ other
  own := by
    rw [State.atTail, State.slot_setSlot_self, live]
    simp
  queue := (List.append_nil _).symm
  parking := rfl
  quiet _ := rfl
  chooses some := absurd rfl some
  again q := State.rechoose_framer_congr rfl (State.choose_congr rfl rfl rfl rfl rfl rfl rfl rfl)

theorem State.entered_again (s : State) (k : Slot) (l : Live) (q : List Event) :
    (State.rechoose { s.entered k l with queue := q }).framer = (State.rechoose { s with queue := q }).framer :=
  State.rechoose_framer_congr rfl (State.choose_congr rfl rfl rfl rfl rfl rfl rfl rfl)

theorem turn_of_room (live : s.slot k = some l) : Turn h k s (s.entered k l).rechoose [k] [] where
  tick := by rw [State.rechoose_eq]; rfl
  regs := by rw [State.rechoose_eq]; rfl
  others _ other := (State.slot_congr (s.entered k l).rechoose_slots _).trans (State.slot_setSlot_ne _ _ other)
  own := by
    rw [State.slot_congr (s.entered k l).rechoose_slots, State.entered, State.slot_setSlot_self]
    simp
  queue := by
    rw [State.rechoose_queue, List.filterMap_cons, live]
    rfl
  parking := by
    rw [State.rechoose_parking, List.append_nil]
    rfl
  quiet none := absurd none (List.cons_ne_nil _ _)
  chooses _ := by
    rw [State.rechoose_queue]
    exact s.entered_again k l (s.entered k l).queue
  again q := by
    have chosen := State.rechoose_after_rechoose { s.entered k l with queue := q } (s.entered k l) rfl
    rw [State.rechoose_eq (s.entered k l)]
    exact (congrArg State.framer chosen).trans (s.entered_again k l q)

/-! ### All turns in order -/

theorem State.completedIn_cons_of_complete {ks : List Slot} (live : s.slot k = some l) (reached : l.reachedBy h = true)
    (complete : l.complete = true) : s.completedIn h (k :: ks) = k :: s.completedIn h ks := by
  refine List.filter_cons_of_pos ?_
  rw [live, Option.any_some, reached, complete]
  rfl

theorem State.completedIn_cons_of_other {ks : List Slot}
    (other : ∀ l, s.slot k = some l → (l.reachedBy h && l.complete) = false) :
    s.completedIn h (k :: ks) = s.completedIn h ks := by
  refine List.filter_cons_of_neg ?_
  cases live : s.slot k with
  | none => exact Bool.false_ne_true
  | some l =>
    rw [Option.any_some, other l live]
    exact Bool.false_ne_true

/-- A turn in which no event is completed leaves the lists to the slots behind. -/
theorem Turn.reported_of_incomplete {ks : List Slot} (turn : Turn h k s u [] []) (new : k ∉ ks)
    (other : ∀ l, s.slot k = some l → (l.reachedBy h && l.complete) = false) (rest : Reported h ks u t) :
    Reported h (k :: ks) s t := by
  have list := State.completedIn_cons_of_other (ks := ks) other
  have queue : u.queue = s.queue := by rw [turn.queue, List.filterMap_nil, List.append_nil]
  refine turn.reported new (fun j mem => absurd mem List.not_mem_nil) ?_ ?_ rest
  · rw [State.entering, State.entering, list, turn.completedIn new, queue, List.nil_append]
  · rw [State.waiting, State.waiting, list, turn.completedIn new, queue, List.nil_append]

theorem reported_foldl {ks : List Slot} (once : ks.Nodup) (s : State) :
    Reported h ks s (ks.foldl (State.reportSlot h) s) := by
  induction ks generalizing s with
  | nil => exact reported_nil h s
  | cons k ks ih =>
    obtain ⟨new, once⟩ := List.nodup_cons.1 once
    have rest := ih once (State.reportSlot h s k)
    rw [List.foldl_cons]
    by_cases stays : ∀ l, s.slot k = some l → l.reachedBy h = false
    · rw [State.reportSlot_of_stays stays] at rest ⊢
      exact (turn_of_stays stays).reported_of_incomplete new (fun l live => by rw [stays l live, Bool.false_and]) rest
    simp only [not_forall, Bool.not_eq_false] at stays
    obtain ⟨l, live, reached⟩ := stays
    rw [State.reportSlot_of_reached live reached] at rest ⊢
    cases complete : l.complete with
    | false =>
      rw [State.endCollection_of_held live complete] at rest ⊢
      refine (turn_of_held live reached complete).reported_of_incomplete new (fun m same => ?_) rest
      obtain rfl := Option.some.inj (live.symm.trans same)
      rw [complete, Bool.and_false]
    | true =>
      have list := State.completedIn_cons_of_complete (ks := ks) live reached complete
      by_cases room : s.queue.length < 32
      · rw [State.endCollection_of_room live complete room] at rest ⊢
        have turn := turn_of_room (h := h) live
        obtain ⟨n, places⟩ : ∃ n, 32 - s.queue.length = n + 1 := ⟨31 - s.queue.length, by omega⟩
        have after : 32 - (s.entered k l).rechoose.queue.length = n := by
          rw [State.rechoose_queue, State.entered, State.setSlot_queue, List.length_append, List.length_singleton]
          omega
        refine turn.reported new (fun j mem => List.mem_singleton.1 mem) ?_ ?_ rest
        · rw [State.entering, State.entering, list, turn.completedIn new, places, after]
          rfl
        · rw [State.waiting, State.waiting, list, turn.completedIn new, places, after]
          rfl
      · rw [State.endCollection_of_full live complete (Nat.not_lt.1 room)] at rest ⊢
        have turn := turn_of_full (h := h) live
        have none : 32 - s.queue.length = 0 := by omega
        have still : 32 - (s.atTail k l).queue.length = 0 := none
        refine turn.reported new (fun j mem => List.mem_singleton.1 mem) ?_ ?_ rest
        · rw [State.entering, State.entering, none, still]
          rfl
        · rw [State.waiting, State.waiting, list, turn.completedIn new, none, still]
          rfl

theorem State.report_reported (s : State) (h : Tick) : Reported h allSlots s (s.report h) :=
  reported_foldl nodup_allSlots s

/-! ### The report after the expiry (R16, R18) -/

/-- The state that the report meets: the expiry up to the horizon has been made. -/
def State.expiredNow (s : State) : State :=
  State.expire { s with horizon := horizonOf s.tick s.regs.latency, owed := { s.owed with horizon := false } }
    (horizonOf s.tick s.regs.latency)

theorem State.moveHorizon_eq_report (s : State) :
    s.moveHorizon = s.expiredNow.report (horizonOf s.tick s.regs.latency) := rfl

theorem State.expiredNow_slot (s : State) (k : Slot) : s.expiredNow.slot k =
    (s.slot k).map (s.expired (horizonOf s.tick s.regs.latency) k) := by
  unfold State.expiredNow
  generalize horizonOf s.tick s.regs.latency = h
  have same : State.dispositionsUpTo { s with horizon := h, owed := { s.owed with horizon := false } } h =
      s.dispositionsUpTo h := State.dispositionsUpTo_congr h rfl rfl rfl rfl
  have offers : State.offersTo { s with horizon := h, owed := { s.owed with horizon := false } } h k = s.offersTo h k := by
    rw [State.offersTo, same]
    rfl
  cases live : s.slot k with
  | some l =>
    have expired := State.slot_expire { s with horizon := h, owed := { s.owed with horizon := false } } h live
    rw [State.expired, offers] at expired
    exact expired
  | none =>
    have free := State.isSome_slot_expire { s with horizon := h, owed := { s.owed with horizon := false } } h k
    have before : State.slot { s with horizon := h, owed := { s.owed with horizon := false } } k = none := live
    rw [before, Option.isSome_none, Option.isSome_eq_false_iff, Option.isNone_iff_eq_none] at free
    exact free

theorem State.expiredNow_keeps (s : State) : s.expiredNow.queue = s.queue ∧ s.expiredNow.parking = s.parking ∧
    s.expiredNow.tick = s.tick ∧ s.expiredNow.regs = s.regs ∧ s.expiredNow.framer = s.framer := by
  unfold State.expiredNow
  rw [State.expire_eq]
  exact ⟨rfl, rfl, rfl, rfl, rfl⟩

theorem State.expiredNow_again (s : State) (q : List Event) :
    (State.rechoose { s.expiredNow with queue := q }).framer = (State.rechoose { s with queue := q }).framer := by
  unfold State.expiredNow
  rw [State.expire_eq]
  exact State.rechoose_framer_congr rfl (State.choose_congr rfl rfl rfl rfl rfl rfl rfl rfl)

theorem State.expiredNow_completedIn (s : State) :
    s.expiredNow.completedIn (horizonOf s.tick s.regs.latency) allSlots = s.completedAt (horizonOf s.tick s.regs.latency) := by
  refine List.filter_congr (fun k _ => ?_)
  rw [State.expiredNow_slot]
  cases s.slot k with
  | none => rfl
  | some l => rfl

theorem State.advanceHorizon_lists (s : State) : s.advanceHorizon.queue = s.moveHorizon.queue ∧
    s.advanceHorizon.parking = s.moveHorizon.parking ∧ s.advanceHorizon.framer = s.moveHorizon.framer := by
  rw [State.advanceHorizon_eq_moveHorizon]
  generalize s.moveHorizon = t
  rw [State.countIf_eq]
  dsimp only
  rw [State.drainTest_eq]
  exact ⟨rfl, rfl, rfl⟩

/-- A slot's content after the horizon's command. -/
theorem State.advanceHorizon_slot_eq (s : State) (k : Slot) :
    let h := horizonOf s.tick s.regs.latency
    s.advanceHorizon.slot k =
      if k ∈ (s.completedAt h).take (32 - s.queue.length) then none
      else if k ∈ (s.completedAt h).drop (32 - s.queue.length) then (s.slot k).map (fun l => s.parkedNow (s.expired h k l))
      else (s.slot k).map (fun l => s.turned h (s.expired h k l)) := by
  dsimp only
  obtain ⟨queue, -, tick, regs, -⟩ := s.expiredNow_keeps
  have held : s.expiredNow.heldNow = s.heldNow := funext (fun l => by rw [State.heldNow, tick, regs, State.heldNow])
  have parked : s.expiredNow.parkedNow = s.parkedNow := funext (fun l => by rw [State.parkedNow, tick, State.parkedNow])
  have turned (h : Tick) : s.expiredNow.turned h = s.turned h :=
    funext (fun l => by rw [State.turned, held, State.turned])
  rw [State.advanceHorizon_slot, State.moveHorizon_eq_report, (s.expiredNow.report_reported _).slot, State.slotAfter,
    State.entering, State.waiting, State.expiredNow_completedIn, queue, if_pos (mem_allSlots k), State.expiredNow_slot,
    parked, turned, Option.map_map, Option.map_map]
  rfl

theorem State.mem_completedAt : k ∈ s.completedAt h ↔ ∃ l, s.slot k = some l ∧ l.reachedBy h = true ∧ l.complete = true := by
  rw [State.completedAt, List.mem_filter, and_iff_right (mem_allSlots k), Option.any_eq_true]
  simp only [Bool.and_eq_true]

theorem Live.reachedBy_iff : l.reachedBy h = true ↔ l.state = .collecting ∧ atOrBefore l.last h = true := by
  rw [Live.reachedBy, Bool.and_eq_true, beq_iff_eq]

/-- A slot whose event is not completed. -/
theorem State.advanceHorizon_slot_of_incomplete (other : k ∉ s.completedAt (horizonOf s.tick s.regs.latency)) :
    s.advanceHorizon.slot k = (s.slot k).map (fun l => s.turned (horizonOf s.tick s.regs.latency)
      (s.expired (horizonOf s.tick s.regs.latency) k l)) := by
  rw [State.advanceHorizon_slot_eq, if_neg (fun mem => other (List.mem_of_mem_take mem)),
    if_neg (fun mem => other (List.mem_of_mem_drop mem))]

theorem State.nodup_completedAt (s : State) (h : Tick) : (s.completedAt h).Nodup := nodup_allSlots.filter _

end

/-- Settles O9: the cases of one entry, then the report's turns over the table that the expiry left. -/
theorem endOfCollectionHoldsHandsOverOrParks : Obligations.EndOfCollectionHoldsHandsOverOrParks := by
  unfold Obligations.EndOfCollectionHoldsHandsOverOrParks
  refine ⟨fun s k l live => ⟨fun provisional unconfirmed => ?_, fun complete room => ?_, fun complete full => ?_⟩, ?_⟩
  · exact State.endCollection_of_held live (Live.complete_eq_false_iff.2 ⟨provisional, unconfirmed⟩)
  · exact State.endCollection_of_room live (Live.complete_iff.2 complete) room
  · exact State.endCollection_of_full live (Live.complete_iff.2 complete) full
  intro s out h done entering waiting
  obtain ⟨queue, parking, framer⟩ := s.advanceHorizon_lists
  obtain ⟨queue', parking', -, -, framer'⟩ := s.expiredNow_keeps
  have reported := s.expiredNow.report_reported h
  have completes : s.expiredNow.completedIn h allSlots = s.completedAt h := s.expiredNow_completedIn
  have enters : s.expiredNow.entering h allSlots = entering := by rw [State.entering, completes, queue']
  have waits : s.expiredNow.waiting h allSlots = waiting := by rw [State.waiting, completes, queue']
  have slot := s.advanceHorizon_slot_eq
  refine ⟨_, exec_horizonAdvance out, ?_, ?_, fun k enters => ?_, fun k waits l live => ?_,
    fun k l live collecting reached => ⟨fun provisional unconfirmed => ?_, fun complete => ?_⟩,
    fun k l live stays => ?_, fun k free => ?_, ?_⟩
  · refine queue.trans (reported.queue.trans ?_)
    rw [queue', enters]
    refine congrArg _ (List.filterMap_congr (fun k _ => ?_))
    rw [State.expiredNow_slot, Option.map_map]
    rfl
  · exact parking.trans (reported.parking.trans (by rw [parking', waits]))
  · exact (slot k).trans (if_pos enters)
  · have apart : k ∉ entering := fun enters => List.disjoint_take_drop (s.nodup_completedAt h) le_rfl enters waits
    refine (slot k).trans ((if_neg apart).trans ((if_pos waits).trans ?_))
    rw [live]
    rfl
  · have incomplete := Live.complete_eq_false_iff.2 ⟨provisional, unconfirmed⟩
    have ends := Live.reachedBy_iff.2 ⟨collecting, reached⟩
    have other : k ∉ done := by
      rw [State.mem_completedAt]
      rintro ⟨m, same, -, complete⟩
      obtain rfl := Option.some.inj (live.symm.trans same)
      exact Bool.noConfusion (incomplete.symm.trans complete)
    refine (State.advanceHorizon_slot_of_incomplete other).trans ?_
    have row : ((s.expired h k l).reachedBy h && !(s.expired h k l).complete) = true := by
      show (l.reachedBy h && !l.complete) = true
      rw [ends, incomplete]
      rfl
    rw [live]
    exact congrArg some (if_pos row)
  · exact State.mem_completedAt.2 ⟨l, live, Live.reachedBy_iff.2 ⟨collecting, reached⟩, Live.complete_iff.2 complete⟩
  · refine ⟨?_, State.advanceHorizon_slot_of_stays live stays⟩
    rw [State.mem_completedAt]
    rintro ⟨m, same, reached, -⟩
    obtain rfl := Option.some.inj (live.symm.trans same)
    obtain ⟨collecting, past⟩ := Live.reachedBy_iff.1 reached
    exact stays.elim (fun other => other collecting) (fun ahead => Bool.noConfusion (ahead.symm.trans past))
  · have other : k ∉ done := by
      rw [State.mem_completedAt]
      rintro ⟨m, same, -⟩
      exact Option.some_ne_none m (same.symm.trans free)
    refine ⟨other, (State.advanceHorizon_slot_of_incomplete other).trans ?_⟩
    rw [free]
    rfl
  · refine framer.trans (reported.framer.trans ?_)
    have again := s.expiredNow_again s.advanceHorizon.queue
    rw [enters]
    split
    · exact framer'
    · rw [queue] at again ⊢
      exact again

end Sys2Proof.Machine
end

section
/-! The decision deadlines: what one timeout's discard and its notice do, and what the discards of all due slots come to
(R53, R54, R62, R63, R144, R183). -/

-- One theorem after another: side by side they ask for more threads than the check's memory limit allows.
set_option Elab.async false

namespace Sys2Proof.Machine

open Sys2Proof

section

variable {s t u : State} {k : Slot} {l : Live}

/-! ### A discard's slot and its records (R60, R75) -/

theorem State.discard_of_held {d : Tick} (live : s.slot k = some l) (held : l.state = .held d) :
    s.discard k = (s.setSlot k none).storeChanged.drainTest := by
  rw [State.discard, live]
  dsimp only
  rw [if_neg (by rw [held]; exact EntryState.noConfusion)]

theorem State.discardReported_of_live (live : s.slot k = some l) (reason : DiscardReason) : s.discardReported k reason =
    ((s.discard k).countDiscard reason).notify (.discard l.tag reason l.event.records.length s.tick) := by
  rw [State.discardReported, live]

theorem State.slot_discard (s : State) (k j : Slot) : (s.discard k).slot j = if j = k then none else s.slot j := by
  unfold State.discard
  split
  next free =>
    split
    next here => rw [here, free]
    next => rfl
  next l live =>
    rw [State.slot_congr (State.drainTest_slots _), State.slot_congr (State.storeChanged_slots _), State.slot_setSlot]
    split
    · rfl
    · split
      · rfl
      · rfl

theorem State.slot_discardReported (live : s.slot k = some l) (reason : DiscardReason) (j : Slot) :
    (s.discardReported k reason).slot j = if j = k then none else s.slot j := by
  rw [s.discardReported_of_live live, ← s.slot_discard]
  refine State.slot_congr ?_ j
  rw [State.notify_slots, State.countDiscard_eq]

theorem State.suspended_storeChanged (s : State) :
    s.storeChanged.suspended = (s.suspended && decide (s.stored ≠ 0)) := by
  unfold State.storeChanged
  split
  next all =>
    rw [decide_eq_false (not_not.2 (State.freeSlots_eq_all.1 all)), Bool.and_false]
  next some =>
    rw [decide_eq_true (mt State.freeSlots_eq_all.2 some), Bool.and_true]

/-! ### What discards and offered notices come to -/

/-- The notices of an offer, where their kind is enabled (R146). -/
def State.offered (s : State) (n : Notice) : List Notice := if s.noticeEnabled n then [n] else []

/-- What the discards of n timeouts and the offers of some notices leave. -/
structure TimedOut (n : Nat) (offered : List Notice) (s t : State) : Prop where
  notices : t.notices = s.notices ++ offered.take (8 - s.notices.length)
  counters : t.counters = { s.counters with
    discardedEvents := satAdd s.counters.discardedEvents n,
    decisionTimeouts := satAdd s.counters.decisionTimeouts n,
    noticesLost := satAdd s.counters.noticesLost (offered.length - (8 - s.notices.length)) }
  timeout : t.flagSet .timeout = (s.flagSet .timeout || decide (n ≠ 0))
  noticeLost : t.flagSet .noticeLost =
    (s.flagSet .noticeLost || decide (offered.length - (8 - s.notices.length) ≠ 0))
  others : ∀ f, f ≠ .timeout → f ≠ .noticeLost → f ≠ .drained → t.flagSet f = s.flagSet f
  stored_le : t.stored ≤ s.stored
  stored_eq : n = 0 → t.stored = s.stored
  suspended : t.suspended = (s.suspended && decide (n = 0 ∨ t.stored ≠ 0))
  framer : t.framer = if t.notices = s.notices then s.framer else (State.rechoose { s with notices := t.notices }).framer
  rest : t = { s with
    slots := t.slots, suspended := t.suspended, recState := t.recState, counters := t.counters, flags := t.flags,
    notices := t.notices, framer := t.framer }

theorem timedOut_refl (s : State) : TimedOut 0 [] s s where
  notices := by rw [List.take_nil, List.append_nil]
  counters := by simp only [satAdd_zero, List.length_nil, Nat.zero_sub]
  timeout := by simp
  noticeLost := by simp
  others _ _ _ _ := rfl
  stored_le := le_rfl
  stored_eq _ := rfl
  suspended := by simp
  framer := (if_pos rfl).symm
  rest := rfl

/-- The choice with other notices is not changed by what the discards leave. -/
theorem TimedOut.again {n : Nat} {offered : List Notice} (timed : TimedOut n offered s t) (q : List Notice) :
    (State.rechoose { t with notices := q }).framer = (State.rechoose { s with notices := q }).framer := by
  rw [timed.rest, timed.framer]
  dsimp only
  split
  · exact State.rechoose_framer_congr rfl (State.choose_congr rfl rfl rfl rfl rfl rfl rfl rfl)
  · have chosen := State.rechoose_after_rechoose { s with notices := q } { s with notices := t.notices } rfl
    rw [← chosen]
    exact State.rechoose_framer_congr rfl (State.choose_congr rfl rfl rfl rfl rfl rfl rfl rfl)

/-- The discards and offers of two parts, one after the other. -/
theorem TimedOut.trans {m n : Nat} {before after : List Notice} (first : TimedOut m before s u)
    (second : TimedOut n after u t) : TimedOut (m + n) (before ++ after) s t where
  notices := by
    have places : 8 - (s.notices ++ before.take (8 - s.notices.length)).length =
        8 - s.notices.length - before.length := by
      rw [List.length_append, List.length_take]
      omega
    rw [second.notices, first.notices, places, List.append_assoc, List.take_append]
  counters := by
    have lost : before.length - (8 - s.notices.length) + (after.length - (8 - u.notices.length)) =
        (before ++ after).length - (8 - s.notices.length) := by
      rw [first.notices, List.length_append, List.length_append, List.length_take]
      omega
    rw [second.counters, first.counters, ← lost]
    simp only [satAdd_satAdd]
  timeout := by
    rw [second.timeout, first.timeout, Bool.or_assoc, ← Bool.decide_or]
    refine congrArg _ (decide_eq_decide.2 ?_)
    omega
  noticeLost := by
    rw [second.noticeLost, first.noticeLost, Bool.or_assoc, ← Bool.decide_or]
    refine congrArg _ (decide_eq_decide.2 ?_)
    rw [first.notices, List.length_append, List.length_append, List.length_take]
    omega
  others f timeout lost drained :=
    (second.others f timeout lost drained).trans (first.others f timeout lost drained)
  stored_le := second.stored_le.trans first.stored_le
  stored_eq none := (second.stored_eq (by omega)).trans (first.stored_eq (by omega))
  suspended := by
    have less := second.stored_le
    have same := second.stored_eq
    rw [second.suspended, first.suspended, Bool.and_assoc, ← Bool.decide_and]
    refine congrArg _ (decide_eq_decide.2 ?_)
    omega
  framer := by
    rw [second.framer]
    have grown : u.notices ≠ s.notices → t.notices ≠ s.notices := by
      rw [second.notices, first.notices, List.append_assoc]
      rw [ne_eq, List.append_right_eq_self, ne_eq, List.append_right_eq_self, List.append_eq_nil_iff]
      exact fun some none => some none.1
    by_cases later : t.notices = u.notices
    · rw [if_pos later, later, first.framer]
    · rw [if_neg later, first.again, if_neg]
      rintro same
      exact later (same.trans (not_ne_iff.1 (fun some => grown some same)).symm)
  rest := by
    have second := second.rest
    rw [first.rest] at second
    exact second

theorem State.countDiscard_timeout (s : State) : s.countDiscard .timeout = State.raise { s with counters := { s.counters with
    discardedEvents := satAdd s.counters.discardedEvents 1,
    decisionTimeouts := satAdd s.counters.decisionTimeouts 1 } } .timeout := by
  rw [satAdd_one, satAdd_one]
  rfl

/-- What a freed store and Run Control's test may change. -/
theorem State.drainTest_storeChanged_eq (s : State) : s.storeChanged.drainTest =
    { s with
      suspended := s.storeChanged.drainTest.suspended, recState := s.storeChanged.drainTest.recState,
      flags := s.storeChanged.drainTest.flags } := by
  rw [State.drainTest_eq, State.storeChanged_eq]

/-- A timeout's discard with its counts and its flag, before its notice. -/
theorem timedOut_discard {d : Tick} (live : s.slot k = some l) (held : l.state = .held d) :
    TimedOut 1 [] s ((s.discard k).countDiscard .timeout) := by
  rw [State.discard_of_held live held, State.countDiscard_timeout]
  have rest := (s.setSlot k none).drainTest_storeChanged_eq
  have less := s.stored_setSlot_none_le k
  have flags {f : Flag} (other : f ≠ .drained) :
      (s.setSlot k none).storeChanged.drainTest.flagSet f = s.flagSet f :=
    (State.flagSet_drainTest _ other).trans (State.flagSet_congr (State.storeChanged_flags _) f)
  have suspended : (s.setSlot k none).storeChanged.drainTest.suspended =
      (s.suspended && decide ((s.setSlot k none).stored ≠ 0)) :=
    (State.drainTest_suspended _).trans (State.suspended_storeChanged _)
  generalize (s.setSlot k none).storeChanged.drainTest = u at *
  have stored : u.stored = (s.setSlot k none).stored := by
    rw [rest]
    exact State.stored_congr
  have notices : u.notices = s.notices := by rw [rest, State.setSlot_notices]
  have framer : u.framer = s.framer := by rw [rest, State.setSlot_framer]
  refine ⟨?_, ?_, ?_, ?_, fun f timeout _ drained => ?_, ?_, fun none => absurd none Nat.one_ne_zero, ?_, ?_, ?_⟩
  · rw [List.take_nil, List.append_nil]
    exact notices
  · rw [List.length_nil, Nat.zero_sub, satAdd_zero, State.raise, rest, State.setSlot_counters]
  · rw [State.flagSet_raise_self, decide_eq_true Nat.one_ne_zero, Bool.or_true]
  · rw [State.flagSet_raise_of_ne _ Flag.noConfusion, List.length_nil, Nat.zero_sub, decide_eq_false (not_not.2 rfl),
      Bool.or_false]
    exact flags Flag.noConfusion
  · rw [State.flagSet_raise_of_ne _ timeout]
    exact flags drained
  · exact stored.trans_le less
  · refine suspended.trans (congrArg _ (decide_eq_decide.2 ?_))
    rw [or_iff_right Nat.one_ne_zero, ← stored]
    rfl
  · exact framer.trans (if_pos notices).symm
  · rw [rest]
    rfl

theorem State.notify_of_room {n : Notice} (on : s.noticeEnabled n = true) (room : s.notices.length < 8) :
    s.notify n = (State.rechoose { s with notices := s.notices ++ [n] }) := by
  rw [State.notify, if_pos on, if_pos room]

theorem State.notify_of_full {n : Notice} (on : s.noticeEnabled n = true) (full : 8 ≤ s.notices.length) :
    s.notify n = (s.count .noticesLost).raise .noticeLost := by
  rw [State.notify, if_pos on, if_neg (Nat.not_lt.2 full)]

theorem timedOut_notify_of_room {n : Notice} (on : s.noticeEnabled n = true) (room : s.notices.length < 8) :
    TimedOut 0 [n] s (s.notify n) := by
  have none : [n].length - (8 - s.notices.length) = 0 := by
    rw [List.length_singleton]
    omega
  rw [State.notify_of_room on room]
  have rest := State.rechoose_eq { s with notices := s.notices ++ [n] }
  generalize ended : State.rechoose { s with notices := s.notices ++ [n] } = u at *
  have notices : u.notices = s.notices ++ [n] := by rw [rest]
  have flags (f : Flag) : u.flagSet f = s.flagSet f := State.flagSet_congr (by rw [rest]) f
  have stored : u.stored = s.stored := by
    rw [rest]
    exact State.stored_congr
  refine ⟨?_, ?_, ?_, ?_, fun f _ _ _ => flags f, stored.le, fun _ => stored, ?_, ?_, ?_⟩
  · rw [notices, List.take_of_length_le]
    exact Nat.sub_eq_zero_iff_le.1 none
  · rw [none, satAdd_zero, satAdd_zero, satAdd_zero, rest]
  · rw [decide_eq_false (not_not.2 rfl), Bool.or_false]
    exact flags .timeout
  · rw [none, decide_eq_false (not_not.2 rfl), Bool.or_false]
    exact flags .noticeLost
  · rw [decide_eq_true (.inl rfl), Bool.and_true, rest]
  · rw [notices, if_neg (by simp), ended]
  · rw [rest]

theorem timedOut_notify_of_full {n : Notice} (on : s.noticeEnabled n = true) (full : 8 ≤ s.notices.length) :
    TimedOut 0 [n] s (s.notify n) := by
  have none : 8 - s.notices.length = 0 := by omega
  rw [State.notify_of_full on full]
  refine ⟨?_, ?_, ?_, ?_, fun f _ lost _ => ?_, le_rfl, fun _ => rfl, ?_, (if_pos rfl).symm, rfl⟩
  · rw [none, List.take_zero, List.append_nil]
    rfl
  · rw [none, satAdd_zero, satAdd_zero, List.length_singleton, Nat.sub_zero, satAdd_one]
    rfl
  · rw [State.flagSet_raise_of_ne _ Flag.noConfusion, decide_eq_false (not_not.2 rfl), Bool.or_false]
    rfl
  · rw [State.flagSet_raise_self, none, List.length_singleton, Nat.sub_zero, decide_eq_true Nat.one_ne_zero, Bool.or_true]
  · rw [State.flagSet_raise_of_ne _ lost]
    rfl
  · rw [decide_eq_true (.inl rfl), Bool.and_true]
    rfl

/-- A notice is offered: it joins the queue, is lost, or is of a kind that is not enabled (R144, R146). -/
theorem timedOut_notify (s : State) (n : Notice) : TimedOut 0 (s.offered n) s (s.notify n) := by
  unfold State.offered
  split
  next on =>
    rcases Nat.lt_or_ge s.notices.length 8 with room | full
    · exact timedOut_notify_of_room on room
    · exact timedOut_notify_of_full on full
  next off =>
    rw [State.notify, if_neg off]
    exact timedOut_refl s

/-! ### A slot meets the tick -/

theorem State.deadlineSlot_of_held (live : s.slot k = some l) (held : l.state = .held s.tick) :
    s.deadlineSlot k = s.discardReported k .timeout := by
  rw [State.deadlineSlot, live]
  exact if_pos held

theorem State.deadlineSlot_of_stays (stays : ∀ l, s.slot k = some l → l.state ≠ .held s.tick) : s.deadlineSlot k = s := by
  unfold State.deadlineSlot
  split
  next => rfl
  next l live => exact if_neg (stays l live)

/-- The notice of a timeout's discard at a tick. -/
def State.timeoutNotice (s : State) (l : Live) : Notice := .discard l.tag .timeout l.event.records.length s.tick

theorem timedOut_deadlineSlot (live : s.slot k = some l) (held : l.state = .held s.tick) :
    TimedOut 1 (s.offered (s.timeoutNotice l)) s (s.deadlineSlot k) := by
  rw [State.deadlineSlot_of_held live held, State.discardReported_of_live live]
  have discarded := timedOut_discard live held
  have same : ((s.discard k).countDiscard .timeout).offered (s.timeoutNotice l) = s.offered (s.timeoutNotice l) := by
    rw [discarded.rest]
    rfl
  exact same ▸ discarded.trans (timedOut_notify _ _)

/-! ### All due slots in order -/

/-- The slots of a list whose deadline is the tick number, in their order. -/
def State.dueIn (s : State) (ks : List Slot) : List Slot :=
  ks.filter (fun k => (s.slot k).any (fun l => l.state == .held s.tick))

/-- The notices that the discards of some slots offer, in order. -/
def State.offeredBy (s : State) (ks : List Slot) : List Notice :=
  if s.regs.noticeEn.getLsbD 1 then ks.filterMap (fun k => (s.slot k).map s.timeoutNotice) else []

theorem State.dueIn_cons_of_held {ks : List Slot} (live : s.slot k = some l) (held : l.state = .held s.tick) :
    s.dueIn (k :: ks) = k :: s.dueIn ks := by
  refine List.filter_cons_of_pos ?_
  rw [live, Option.any_some, beq_iff_eq]
  exact held

theorem State.dueIn_cons_of_stays {ks : List Slot} (stays : ∀ l, s.slot k = some l → l.state ≠ .held s.tick) :
    s.dueIn (k :: ks) = s.dueIn ks := by
  refine List.filter_cons_of_neg ?_
  rw [Option.any_eq_true]
  rintro ⟨l, live, held⟩
  exact stays l live (beq_iff_eq.1 held)

theorem State.offeredBy_cons {ks : List Slot} (live : s.slot k = some l) :
    s.offeredBy (k :: ks) = s.offered (s.timeoutNotice l) ++ s.offeredBy ks := by
  have enabled : s.noticeEnabled (s.timeoutNotice l) = s.regs.noticeEn.getLsbD 1 := rfl
  rw [State.offeredBy, State.offeredBy, State.offered, enabled, List.filterMap_cons, live]
  split
  · rfl
  · rfl

/-- A discard does not change what the slots behind it hold. -/
theorem TimedOut.behind {n : Nat} {offered : List Notice} {ks : List Slot} (timed : TimedOut n offered s u)
    (others : ∀ j ∈ ks, u.slot j = s.slot j) :
    u.dueIn ks = s.dueIn ks ∧ u.offeredBy (s.dueIn ks) = s.offeredBy (s.dueIn ks) := by
  have tick : u.tick = s.tick := by rw [timed.rest]
  have regs : u.regs = s.regs := by rw [timed.rest]
  refine ⟨List.filter_congr (fun j mem => by rw [others j mem, tick]), ?_⟩
  have notice : u.timeoutNotice = s.timeoutNotice := funext (fun l => by rw [State.timeoutNotice, tick, State.timeoutNotice])
  rw [State.offeredBy, State.offeredBy, regs, notice]
  refine if_congr Iff.rfl (List.filterMap_congr (fun j mem => ?_)) rfl
  rw [others j (List.mem_filter.1 mem).1]

/-- The entry is not discarded at a tick. -/
def Live.outlasts (tick : Tick) (l : Live) : Bool := l.state != .held tick

theorem Live.outlasts_iff {tick : Tick} : l.outlasts tick = true ↔ l.state ≠ .held tick := bne_iff_ne

theorem Live.outlasts_eq_false_iff {tick : Tick} : l.outlasts tick = false ↔ l.state = .held tick := bne_eq_false_iff_eq

theorem State.slot_deadlineSlot (s : State) (k j : Slot) : (s.deadlineSlot k).slot j =
    if j = k then (s.slot k).filter (Live.outlasts s.tick) else s.slot j := by
  by_cases stays : ∀ l, s.slot k = some l → l.state ≠ .held s.tick
  · rw [State.deadlineSlot_of_stays stays]
    split
    next here =>
      rw [here]
      cases live : s.slot k with
      | none => rfl
      | some l => exact (Option.filter_some_pos (Live.outlasts_iff.2 (stays l live))).symm
    next => rfl
  · simp only [not_forall, not_not] at stays
    obtain ⟨l, live, held⟩ := stays
    rw [State.deadlineSlot_of_held live held, s.slot_discardReported live, live]
    refine if_congr Iff.rfl ?_ rfl
    exact (Option.filter_some_neg (Live.outlasts_eq_false_iff.2 held)).symm

theorem timedOut_foldl {ks : List Slot} (once : ks.Nodup) (s : State) :
    TimedOut (s.dueIn ks).length (s.offeredBy (s.dueIn ks)) s (ks.foldl State.deadlineSlot s) := by
  induction ks generalizing s with
  | nil =>
    have none : s.offeredBy [] = [] := ite_self _
    exact none.symm ▸ timedOut_refl s
  | cons k ks ih =>
    obtain ⟨new, once⟩ := List.nodup_cons.1 once
    rw [List.foldl_cons]
    by_cases stays : ∀ l, s.slot k = some l → l.state ≠ .held s.tick
    · rw [State.deadlineSlot_of_stays stays, State.dueIn_cons_of_stays stays]
      exact ih once s
    · simp only [not_forall, not_not] at stays
      obtain ⟨l, live, held⟩ := stays
      have turn := timedOut_deadlineSlot live held
      have others : ∀ j ∈ ks, (s.deadlineSlot k).slot j = s.slot j := fun j mem =>
        (s.slot_deadlineSlot k j).trans (if_neg (fun (here : j = k) => new (here ▸ mem)))
      obtain ⟨due, offered⟩ := turn.behind others
      have rest := ih once (s.deadlineSlot k)
      rw [due, offered] at rest
      rw [State.dueIn_cons_of_held live held, State.offeredBy_cons live, List.length_cons, Nat.add_comm]
      exact turn.trans rest

theorem foldl_deadlineSlot_of_none {ks : List Slot} (none : s.dueIn ks = []) : ks.foldl State.deadlineSlot s = s := by
  induction ks with
  | nil => rfl
  | cons k ks ih =>
    rw [State.dueIn, List.filter_eq_nil_iff] at none
    have stays : ∀ l, s.slot k = some l → l.state ≠ .held s.tick := fun l live held => none k List.mem_cons_self (by
      rw [live, Option.any_some, beq_iff_eq]
      exact held)
    rw [List.foldl_cons, State.deadlineSlot_of_stays stays]
    exact ih (List.filter_eq_nil_iff.2 (fun j mem => none j (List.mem_cons_of_mem _ mem)))

theorem State.mem_deadlinesDue : k ∈ s.deadlinesDue ↔ ∃ l, s.slot k = some l ∧ l.state = .held s.tick := by
  rw [State.deadlinesDue, List.mem_filter, and_iff_right (mem_allSlots k), Option.any_eq_true]
  simp only [beq_iff_eq]

theorem slot_foldl_deadlineSlot {ks : List Slot} (once : ks.Nodup) (s : State) (k : Slot) :
    (ks.foldl State.deadlineSlot s).slot k =
      if k ∈ ks then (s.slot k).filter (Live.outlasts s.tick) else s.slot k := by
  refine slot_foldl_own (op := State.deadlineSlot) (f := fun _ o => o.filter (Live.outlasts s.tick))
    (holds := fun u => u.tick = s.tick) (fun u j tick => ?_) (fun u j i tick => ?_) once rfl k
  · rw [State.deadlineSlot_eq]
    exact tick
  · rw [u.slot_deadlineSlot, tick]

theorem State.slot_meetDeadlines (s : State) (k : Slot) :
    s.meetDeadlines.slot k = if k ∈ s.deadlinesDue then none else s.slot k := by
  have slot : s.meetDeadlines.slot k = (s.slot k).filter (Live.outlasts s.tick) :=
    (slot_foldl_deadlineSlot nodup_allSlots _ k).trans (if_pos (mem_allSlots k))
  rw [slot]
  split
  next due =>
    obtain ⟨l, live, held⟩ := State.mem_deadlinesDue.1 due
    rw [live]
    exact Option.filter_some_neg (Live.outlasts_eq_false_iff.2 held)
  next stays =>
    cases live : s.slot k with
    | none => rfl
    | some l =>
      have other : l.state ≠ .held s.tick := fun held => stays (State.mem_deadlinesDue.2 ⟨l, live, held⟩)
      exact Option.filter_some_pos (Live.outlasts_iff.2 other)

theorem State.meetDeadlines_timedOut (s : State) : TimedOut s.deadlinesDue.length (s.offeredBy s.deadlinesDue)
    { s with owed := { s.owed with deadlines := false } } s.meetDeadlines :=
  timedOut_foldl nodup_allSlots { s with owed := { s.owed with deadlines := false } }

end

/-- Settles O10: the deadlines as the discards of all due slots in order, then a discard by its equations. -/
theorem deadlinesAndDiscards : Obligations.DeadlinesAndDiscards := by
  unfold Obligations.DeadlinesAndDiscards
  refine ⟨fun s out other => ?_, fun s k l live => ?_⟩
  · intro due offered lost
    have timed := s.meetDeadlines_timedOut
    have taken : s.takeDeadlines = s.meetDeadlines := by
      rw [State.takeDeadlines_eq_meetDeadlines, State.countIf_of_other]
      rw [State.meetDeadlines_owed]
      exact other
    have some : s.deadlinesDue.length ≠ 0 ↔ due ≠ [] := not_congr List.length_eq_zero_iff
    refine ⟨s.meetDeadlines, (exec_decisionDeadline out).trans (congrArg _ taken), fun k => State.mem_deadlinesDue,
      s.slot_meetDeadlines, timed.notices, timed.counters, ?_, timed.noticeLost, timed.others, ?_, ?_, timed.rest,
      fun none => foldl_deadlineSlot_of_none none⟩
    · exact timed.timeout.trans (congrArg _ (decide_eq_decide.2 some))
    · refine timed.suspended.trans (congrArg _ (decide_eq_decide.2 ?_))
      exact or_congr List.length_eq_zero_iff (not_congr State.freeSlots_eq_all.symm)
    · refine timed.framer.trans (if_congr Iff.rfl rfl ?_)
      exact State.rechoose_framer_congr rfl (State.choose_congr rfl rfl rfl rfl rfl rfl rfl rfl)
  · intro removed
    have discarded : s.discard k = removed.storeChanged.drainTest := by
      rw [State.discard, live]
      dsimp only
      refine congrArg (fun u => (State.setSlot u k none).storeChanged.drainTest) ?_
      split
      · rfl
      · rfl
    have counters : removed.storeChanged.drainTest.counters = s.counters := by
      rw [State.drainTest_counters, State.storeChanged_counters]
      rfl
    rw [State.discardReported_of_live live, State.discardReported_of_live live, discarded, ← counters]
    generalize removed.storeChanged.drainTest = u
    exact ⟨rfl, rfl⟩

end Sys2Proof.Machine
end
